-- ==== Sys2Proof/Word.lean ====
section
/-! DEFINITION. The two word types of the machine: memory cells and general registers are 8 bits, register pairs, SP and pc
are 16 bits (00_scope.md R7). -/

namespace Sys2Proof

/-- A memory cell, a general register, one instruction byte (00_scope.md R7, R8). -/
abbrev Byte := BitVec 8

/-- A register pair, SP, pc, a data address, a 16-bit operand (00_scope.md R7). -/
abbrev Word := BitVec 16

end Sys2Proof
end

