-- ==== Sys2Proof/Machine/Bits.lean ====
section
/-! DEFINITION. Bit-field, byte-order and sign-extension helpers (00_scope.md R8, R9, 10_state.md R22). -/

namespace Sys2Proof

/-- `hi : lo`, the more significant part first: `(hi << 8) | lo` (00_scope.md R8, 10_state.md R22). -/
def joinBytes (hi lo : Byte) : Word := hi ++ lo

/-- `v[15:8]` (00_scope.md R8). -/
def hiByte (v : Word) : Byte := v.extractLsb' 8 8

/-- `v[7:0]` (00_scope.md R8). -/
def loByte (v : Word) : Byte := v.extractLsb' 0 8

/-- `zext_16(v)` (00_scope.md R9). -/
def zext16 (v : Byte) : Word := v.setWidth 16

/-- `sext_8(v)`: `v` if `v < 128`, else `v - 256` (00_scope.md R9, R10). -/
def sext8 (v : Byte) : Int := if v.toNat < 128 then v.toNat else v.toNat - 256

/-- `(w + sext_8(v)) mod 65536`, the sum of a 16-bit value and a signed operand (40_arith_logic.md R182, 44_control.md R315). -/
def addSigned (w : Word) (v : Byte) : Word := BitVec.ofInt 16 (w.toNat + sext8 v)

/-- A boolean as the byte 0 or 1 (00_scope.md R8: "Booleans convert to 0 and 1"). -/
def boolByte (b : Bool) : Byte := if b then 1 else 0

end Sys2Proof
end

