-- ==== Sys2Proof/Config.lean ====
section
/-! DEFINITION. What is fixed for this hardware: the prefix value, the bound on the memory length, and the values of the
construction parameters (00_scope.md R6) that `State.reset` takes. -/

namespace Sys2Proof

/-- `PREFIX`, "fixed `0xCB`, not configurable" (00_scope.md R6). -/
def Config.extPrefix : Byte := 0xCB

/-- The upper bound of `MEM_SIZE` (00_scope.md R6): addresses are 16 bits wide. -/
def Config.memSizeBound : Nat := 65536

/-- `MEM_SIZE` of `State.reset`. DESIGN CHOICE (log 1, unsafe): the spec has no default. -/
def Config.memSize : Nat := 65536

/-- `EXT_ABSENT` of `State.reset`: the empty set (00_scope.md R6, 30_encoding.md R121; log 3). -/
def Config.extAbsent : List Byte := []

/-- What a cell that the memory list does not name holds. Indexes at or past N read 0x00 (20_memory.md R61); below N
this is the content of `MEM_INIT` where the host's image says nothing. DESIGN CHOICE (log 2, unsafe): the spec gives
no default fill. -/
def Config.unlisted : Byte := 0

end Sys2Proof
end

