-- ==== Sys2Proof/Syntax.lean ====
section
/-! DEFINITION. The syntax: operand fields, catalog descriptors, the Instruction struct, the error record, and the
instructions, one constructor for each of the 512 slots of the catalog (spec/opcode_table.json). -/

namespace Sys2Proof

/-- The 8-bit registers that an opcode field can select (10_state.md R20, R21; F has no number). -/
inductive Reg8 where
  | b | c | d | e | h | l | a
deriving DecidableEq, Repr

/-- Table `rp` of register pairs (10_state.md R23). -/
inductive Pair where
  | bc | de | hl | sp
deriving DecidableEq, Repr

/-- Table `rp2` of register pairs, for PUSH and POP (10_state.md R23). -/
inductive StackPair where
  | bc | de | hl | af
deriving DecidableEq, Repr

/-- The conditions `cc` (44_control.md R311). -/
inductive Cond where
  | nz | z | nc | c
deriving DecidableEq, Repr

/-- Table `alu` of 8-bit operations (30_encoding.md R97). -/
inductive Alu where
  | add | adc | sub | sbc | and | xor | or | cp
deriving DecidableEq, Repr

/-- Table `rot` of extended rotates and shifts (30_encoding.md R97). -/
inductive Rot where
  | rlc | rrc | rl | rr | sla | sra | swap | srl
deriving DecidableEq, Repr

/-- The number of a register in an opcode field; 6 is `(HL)` (10_state.md R21). -/
def Reg8.number : Reg8 → Nat
  | .b => 0
  | .c => 1
  | .d => 2
  | .e => 3
  | .h => 4
  | .l => 5
  | .a => 7

/-- The number of a pair in table `rp` (10_state.md R23). -/
def Pair.number : Pair → Nat
  | .bc => 0
  | .de => 1
  | .hl => 2
  | .sp => 3

/-- The number of a pair in table `rp2` (10_state.md R23). -/
def StackPair.number : StackPair → Nat
  | .bc => 0
  | .de => 1
  | .hl => 2
  | .af => 3

/-- The number of a condition (44_control.md R311). -/
def Cond.number : Cond → Nat
  | .nz => 0
  | .z => 1
  | .nc => 2
  | .c => 3

/-- The number of an ALU operation (30_encoding.md R97). -/
def Alu.number : Alu → Nat
  | .add => 0
  | .adc => 1
  | .sub => 2
  | .sbc => 3
  | .and => 4
  | .xor => 5
  | .or => 6
  | .cp => 7

/-- The number of a rotate or shift (30_encoding.md R97). -/
def Rot.number : Rot → Nat
  | .rlc => 0
  | .rrc => 1
  | .rl => 2
  | .rr => 3
  | .sla => 4
  | .sra => 5
  | .swap => 6
  | .srl => 7

/-- The source operand of an 8-bit ALU instruction: a register, the byte at HL, an immediate (40_arith_logic.md). -/
inductive Src where
  | reg (r : Reg8) | atHl | imm (n : Byte)
deriving DecidableEq, Repr

/-- The kind of an encoded operand (10_state.md R30, 30_encoding.md R102). -/
inductive OperandKind where
  | none | u8 | s8 | u16
deriving DecidableEq, Repr

/-- `bytes(k)`: 0, 1, 1, 2 (10_state.md R30). -/
def OperandKind.bytes : OperandKind → Nat
  | .none => 0
  | .u8 => 1
  | .s8 => 1
  | .u16 => 2

/-- One character of the catalog's flag column: `-`, `0`, `1`, or a letter (30_encoding.md R124). -/
inductive FlagEffect where
  | keep | clear | set | computed
deriving DecidableEq, Repr

/-- The flag column of a catalog entry, in the order Z N H C (30_encoding.md R124). -/
structure FlagEffects where
  z : FlagEffect
  n : FlagEffect
  h : FlagEffect
  c : FlagEffect
deriving DecidableEq, Repr

/-- What the engine does with an entry besides its effect (10_state.md R30, decision D25). -/
inductive DescClass where
  | normal | halt | prefixSlot | illegal
deriving DecidableEq, Repr

/-- A catalog descriptor (10_state.md R30). `fmask` is the set of flags whose effect is not `keep`. -/
structure Descriptor where
  present  : Bool
  mnemonic : String
  text     : List String
  ext      : Bool
  op       : Byte
  len      : Nat
  k0       : OperandKind
  k1       : OperandKind
  cycles   : Nat
  cyclesNt : Nat
  flags    : FlagEffects
  ct       : Bool
  cls      : DescClass
deriving DecidableEq, Repr

/-- The Instruction struct: tag `(ext, op)` and the raw encoded operands, zero-extended to 16 bits (10_state.md R33). -/
structure RawInstr where
  ext : Bool
  op  : Byte
  v0  : Word
  v1  : Word
deriving DecidableEq, Repr

/-- An error with the information it carries (60_exceptions.md R370, 10_state.md R36). Decoder positions are plain
integers (20_memory.md R67). The payload of `truncatedOperand`: log 12. -/
inductive Err where
  | streamEnded (pos : Nat)
  | truncatedOperand (pos : Nat) (selector : List Byte)
  | unrecognizedOpcode (bytes : List Byte) (pos : Nat)
  | memoryOverrun (pc : Word)
  | storeOutOfRange (addr : Word) (pc0 : Word)
deriving DecidableEq, Repr

/-- The numeric code of an error (60_exceptions.md R370). -/
def Err.code : Err → Nat
  | .streamEnded _ => 1
  | .truncatedOperand _ _ => 2
  | .unrecognizedOpcode _ _ => 3
  | .memoryOverrun _ => 4
  | .storeOutOfRange _ _ => 5

/-- The instructions: one constructor per catalog slot, carrying the raw encoded operand where the entry has one
(10_state.md R33, 30_encoding.md R124); bytes C0 to FF stand first, then 00 to BF, then the extended space. `At` stands for parentheses in the form's text
(`ldAtHlB` is `LD (HL) B`, `jpAtHl` is `JP (HL)`, which reads no memory); `rlcAcc`, `rrcAcc`, `rlAcc`, `rrAcc`, `cplAcc` are the base-space `RLCA`, `RRCA`,
`RLA`, `RRA`, `CPL`; `prefixCb` is the base slot 0xCB, which no decode produces (30_encoding.md R110). -/
inductive Instr where
  -- base space, x = 3
  | retNz                        -- C0  RET NZ  R320
  | popBc                        -- C1  POP BC  R302
  | jpNzA16 (n : Word)           -- C2  JP NZ a16  R313
  | jpA16 (n : Word)             -- C3  JP a16  R312
  | callNzA16 (n : Word)         -- C4  CALL NZ a16  R318
  | pushBc                       -- C5  PUSH BC  R301
  | addAD8 (n : Byte)            -- C6  ADD A d8  R153
  | rst00                        -- C7  RST 00H  R322
  | retZ                         -- C8  RET Z  R320
  | ret                          -- C9  RET  R319
  | jpZA16 (n : Word)            -- CA  JP Z a16  R313
  | prefixCb                     -- CB  PREFIX CB  R345
  | callZA16 (n : Word)          -- CC  CALL Z a16  R318
  | callA16 (n : Word)           -- CD  CALL a16  R317
  | adcAD8 (n : Byte)            -- CE  ADC A d8  R156
  | rst08                        -- CF  RST 08H  R322
  | retNc                        -- D0  RET NC  R320
  | popDe                        -- D1  POP DE  R302
  | jpNcA16 (n : Word)           -- D2  JP NC a16  R313
  | illegalD3                    -- D3  ILLEGAL_D3  R346
  | callNcA16 (n : Word)         -- D4  CALL NC a16  R318
  | pushDe                       -- D5  PUSH DE  R301
  | subD8 (n : Byte)             -- D6  SUB d8  R159
  | rst10                        -- D7  RST 10H  R322
  | retC                         -- D8  RET C  R320
  | reti                         -- D9  RETI  R321
  | jpCA16 (n : Word)            -- DA  JP C a16  R313
  | illegalDB                    -- DB  ILLEGAL_DB  R346
  | callCA16 (n : Word)          -- DC  CALL C a16  R318
  | illegalDD                    -- DD  ILLEGAL_DD  R346
  | sbcAD8 (n : Byte)            -- DE  SBC A d8  R162
  | rst18                        -- DF  RST 18H  R322
  | ldhAtA8A (n : Byte)          -- E0  LDH (a8) A  R232
  | popHl                        -- E1  POP HL  R302
  | ldAtCA                       -- E2  LD (C) A  R234
  | illegalE3                    -- E3  ILLEGAL_E3  R346
  | illegalE4                    -- E4  ILLEGAL_E4  R346
  | pushHl                       -- E5  PUSH HL  R301
  | andD8 (n : Byte)             -- E6  AND d8  R165
  | rst20                        -- E7  RST 20H  R322
  | addSpR8 (n : Byte)           -- E8  ADD SP r8  R182
  | jpAtHl                       -- E9  JP (HL)  R314
  | ldAtA16A (n : Word)          -- EA  LD (a16) A  R231
  | illegalEB                    -- EB  ILLEGAL_EB  R346
  | illegalEC                    -- EC  ILLEGAL_EC  R346
  | illegalED                    -- ED  ILLEGAL_ED  R346
  | xorD8 (n : Byte)             -- EE  XOR d8  R168
  | rst28                        -- EF  RST 28H  R322
  | ldhAAtA8 (n : Byte)          -- F0  LDH A (a8)  R233
  | popAf                        -- F1  POP AF  R303
  | ldAAtC                       -- F2  LD A (C)  R235
  | di                           -- F3  DI  R343
  | illegalF4                    -- F4  ILLEGAL_F4  R346
  | pushAf                       -- F5  PUSH AF  R301
  | orD8 (n : Byte)              -- F6  OR d8  R171
  | rst30                        -- F7  RST 30H  R322
  | ldHlSpR8 (n : Byte)          -- F8  LD HL SP+r8  R243
  | ldSpHl                       -- F9  LD SP HL  R242
  | ldAAtA16 (n : Word)          -- FA  LD A (a16)  R230
  | ei                           -- FB  EI  R344
  | illegalFC                    -- FC  ILLEGAL_FC  R346
  | illegalFD                    -- FD  ILLEGAL_FD  R346
  | cpD8 (n : Byte)              -- FE  CP d8  R174
  | rst38                        -- FF  RST 38H  R322
  -- base space, x = 0 (30_encoding.md R98)
  | nop                          -- 00  NOP  R340
  | ldBcD16 (n : Word)           -- 01  LD BC d16  R240
  | ldAtBcA                      -- 02  LD (BC) A  R228
  | incBc                        -- 03  INC BC  R180
  | incB                         -- 04  INC B  R175
  | decB                         -- 05  DEC B  R177
  | ldBD8 (n : Byte)             -- 06  LD B d8  R222
  | rlcAcc                       -- 07  RLCA  R183
  | ldAtA16Sp (n : Word)         -- 08  LD (a16) SP  R241
  | addHlBc                      -- 09  ADD HL BC  R179
  | ldAAtBc                      -- 0A  LD A (BC)  R226
  | decBc                        -- 0B  DEC BC  R181
  | incC                         -- 0C  INC C  R175
  | decC                         -- 0D  DEC C  R177
  | ldCD8 (n : Byte)             -- 0E  LD C d8  R222
  | rrcAcc                       -- 0F  RRCA  R184
  | stop0                        -- 10  STOP 0  R341
  | ldDeD16 (n : Word)           -- 11  LD DE d16  R240
  | ldAtDeA                      -- 12  LD (DE) A  R229
  | incDe                        -- 13  INC DE  R180
  | incD                         -- 14  INC D  R175
  | decD                         -- 15  DEC D  R177
  | ldDD8 (n : Byte)             -- 16  LD D d8  R222
  | rlAcc                        -- 17  RLA  R185
  | jrR8 (n : Byte)              -- 18  JR r8  R315
  | addHlDe                      -- 19  ADD HL DE  R179
  | ldAAtDe                      -- 1A  LD A (DE)  R227
  | decDe                        -- 1B  DEC DE  R181
  | incE                         -- 1C  INC E  R175
  | decE                         -- 1D  DEC E  R177
  | ldED8 (n : Byte)             -- 1E  LD E d8  R222
  | rrAcc                        -- 1F  RRA  R186
  | jrNzR8 (n : Byte)            -- 20  JR NZ r8  R316
  | ldHlD16 (n : Word)           -- 21  LD HL d16  R240
  | ldAtHlIncA                   -- 22  LD (HL+) A  R236
  | incHl                        -- 23  INC HL  R180
  | incH                         -- 24  INC H  R175
  | decH                         -- 25  DEC H  R177
  | ldHD8 (n : Byte)             -- 26  LD H d8  R222
  | daa                          -- 27  DAA  R187
  | jrZR8 (n : Byte)             -- 28  JR Z r8  R316
  | addHlHl                      -- 29  ADD HL HL  R179
  | ldAAtHlInc                   -- 2A  LD A (HL+)  R237
  | decHl                        -- 2B  DEC HL  R181
  | incL                         -- 2C  INC L  R175
  | decL                         -- 2D  DEC L  R177
  | ldLD8 (n : Byte)             -- 2E  LD L d8  R222
  | cplAcc                       -- 2F  CPL  R188
  | jrNcR8 (n : Byte)            -- 30  JR NC r8  R316
  | ldSpD16 (n : Word)           -- 31  LD SP d16  R240
  | ldAtHlDecA                   -- 32  LD (HL-) A  R238
  | incSp                        -- 33  INC SP  R180
  | incAtHl                      -- 34  INC (HL)  R176
  | decAtHl                      -- 35  DEC (HL)  R178
  | ldAtHlD8 (n : Byte)          -- 36  LD (HL) d8  R225
  | scf                          -- 37  SCF  R189
  | jrCR8 (n : Byte)             -- 38  JR C r8  R316
  | addHlSp                      -- 39  ADD HL SP  R179
  | ldAAtHlDec                   -- 3A  LD A (HL-)  R239
  | decSp                        -- 3B  DEC SP  R181
  | incA                         -- 3C  INC A  R175
  | decA                         -- 3D  DEC A  R177
  | ldAD8 (n : Byte)             -- 3E  LD A d8  R222
  | ccf                          -- 3F  CCF  R190
  -- base space, x = 1
  | ldBB                         -- 40  LD B B  R221
  | ldBC                         -- 41  LD B C  R221
  | ldBD                         -- 42  LD B D  R221
  | ldBE                         -- 43  LD B E  R221
  | ldBH                         -- 44  LD B H  R221
  | ldBL                         -- 45  LD B L  R221
  | ldBAtHl                      -- 46  LD B (HL)  R223
  | ldBA                         -- 47  LD B A  R221
  | ldCB                         -- 48  LD C B  R221
  | ldCC                         -- 49  LD C C  R221
  | ldCD                         -- 4A  LD C D  R221
  | ldCE                         -- 4B  LD C E  R221
  | ldCH                         -- 4C  LD C H  R221
  | ldCL                         -- 4D  LD C L  R221
  | ldCAtHl                      -- 4E  LD C (HL)  R223
  | ldCA                         -- 4F  LD C A  R221
  | ldDB                         -- 50  LD D B  R221
  | ldDC                         -- 51  LD D C  R221
  | ldDD                         -- 52  LD D D  R221
  | ldDE                         -- 53  LD D E  R221
  | ldDH                         -- 54  LD D H  R221
  | ldDL                         -- 55  LD D L  R221
  | ldDAtHl                      -- 56  LD D (HL)  R223
  | ldDA                         -- 57  LD D A  R221
  | ldEB                         -- 58  LD E B  R221
  | ldEC                         -- 59  LD E C  R221
  | ldED                         -- 5A  LD E D  R221
  | ldEE                         -- 5B  LD E E  R221
  | ldEH                         -- 5C  LD E H  R221
  | ldEL                         -- 5D  LD E L  R221
  | ldEAtHl                      -- 5E  LD E (HL)  R223
  | ldEA                         -- 5F  LD E A  R221
  | ldHB                         -- 60  LD H B  R221
  | ldHC                         -- 61  LD H C  R221
  | ldHD                         -- 62  LD H D  R221
  | ldHE                         -- 63  LD H E  R221
  | ldHH                         -- 64  LD H H  R221
  | ldHL                         -- 65  LD H L  R221
  | ldHAtHl                      -- 66  LD H (HL)  R223
  | ldHA                         -- 67  LD H A  R221
  | ldLB                         -- 68  LD L B  R221
  | ldLC                         -- 69  LD L C  R221
  | ldLD                         -- 6A  LD L D  R221
  | ldLE                         -- 6B  LD L E  R221
  | ldLH                         -- 6C  LD L H  R221
  | ldLL                         -- 6D  LD L L  R221
  | ldLAtHl                      -- 6E  LD L (HL)  R223
  | ldLA                         -- 6F  LD L A  R221
  | ldAtHlB                      -- 70  LD (HL) B  R224
  | ldAtHlC                      -- 71  LD (HL) C  R224
  | ldAtHlD                      -- 72  LD (HL) D  R224
  | ldAtHlE                      -- 73  LD (HL) E  R224
  | ldAtHlH                      -- 74  LD (HL) H  R224
  | ldAtHlL                      -- 75  LD (HL) L  R224
  | halt                         -- 76  HALT  R342
  | ldAtHlA                      -- 77  LD (HL) A  R224
  | ldAB                         -- 78  LD A B  R221
  | ldAC                         -- 79  LD A C  R221
  | ldAD                         -- 7A  LD A D  R221
  | ldAE                         -- 7B  LD A E  R221
  | ldAH                         -- 7C  LD A H  R221
  | ldAL                         -- 7D  LD A L  R221
  | ldAAtHl                      -- 7E  LD A (HL)  R223
  | ldAA                         -- 7F  LD A A  R221
  -- base space, x = 2
  | addAB                        -- 80  ADD A B  R151
  | addAC                        -- 81  ADD A C  R151
  | addAD                        -- 82  ADD A D  R151
  | addAE                        -- 83  ADD A E  R151
  | addAH                        -- 84  ADD A H  R151
  | addAL                        -- 85  ADD A L  R151
  | addAAtHl                     -- 86  ADD A (HL)  R152
  | addAA                        -- 87  ADD A A  R151
  | adcAB                        -- 88  ADC A B  R154
  | adcAC                        -- 89  ADC A C  R154
  | adcAD                        -- 8A  ADC A D  R154
  | adcAE                        -- 8B  ADC A E  R154
  | adcAH                        -- 8C  ADC A H  R154
  | adcAL                        -- 8D  ADC A L  R154
  | adcAAtHl                     -- 8E  ADC A (HL)  R155
  | adcAA                        -- 8F  ADC A A  R154
  | subB                         -- 90  SUB B  R157
  | subC                         -- 91  SUB C  R157
  | subD                         -- 92  SUB D  R157
  | subE                         -- 93  SUB E  R157
  | subH                         -- 94  SUB H  R157
  | subL                         -- 95  SUB L  R157
  | subAtHl                      -- 96  SUB (HL)  R158
  | subA                         -- 97  SUB A  R157
  | sbcAB                        -- 98  SBC A B  R160
  | sbcAC                        -- 99  SBC A C  R160
  | sbcAD                        -- 9A  SBC A D  R160
  | sbcAE                        -- 9B  SBC A E  R160
  | sbcAH                        -- 9C  SBC A H  R160
  | sbcAL                        -- 9D  SBC A L  R160
  | sbcAAtHl                     -- 9E  SBC A (HL)  R161
  | sbcAA                        -- 9F  SBC A A  R160
  | andB                         -- A0  AND B  R163
  | andC                         -- A1  AND C  R163
  | andD                         -- A2  AND D  R163
  | andE                         -- A3  AND E  R163
  | andH                         -- A4  AND H  R163
  | andL                         -- A5  AND L  R163
  | andAtHl                      -- A6  AND (HL)  R164
  | andA                         -- A7  AND A  R163
  | xorB                         -- A8  XOR B  R166
  | xorC                         -- A9  XOR C  R166
  | xorD                         -- AA  XOR D  R166
  | xorE                         -- AB  XOR E  R166
  | xorH                         -- AC  XOR H  R166
  | xorL                         -- AD  XOR L  R166
  | xorAtHl                      -- AE  XOR (HL)  R167
  | xorA                         -- AF  XOR A  R166
  | orB                          -- B0  OR B  R169
  | orC                          -- B1  OR C  R169
  | orD                          -- B2  OR D  R169
  | orE                          -- B3  OR E  R169
  | orH                          -- B4  OR H  R169
  | orL                          -- B5  OR L  R169
  | orAtHl                       -- B6  OR (HL)  R170
  | orA                          -- B7  OR A  R169
  | cpB                          -- B8  CP B  R172
  | cpC                          -- B9  CP C  R172
  | cpD                          -- BA  CP D  R172
  | cpE                          -- BB  CP E  R172
  | cpH                          -- BC  CP H  R172
  | cpL                          -- BD  CP L  R172
  | cpAtHl                       -- BE  CP (HL)  R173
  | cpA                          -- BF  CP A  R172
  -- extended space, x = 0 (30_encoding.md R99)
  | rlcB                         -- CB 00  RLC B  R271
  | rlcC                         -- CB 01  RLC C  R271
  | rlcD                         -- CB 02  RLC D  R271
  | rlcE                         -- CB 03  RLC E  R271
  | rlcH                         -- CB 04  RLC H  R271
  | rlcL                         -- CB 05  RLC L  R271
  | rlcAtHl                      -- CB 06  RLC (HL)  R272
  | rlcA                         -- CB 07  RLC A  R271
  | rrcB                         -- CB 08  RRC B  R273
  | rrcC                         -- CB 09  RRC C  R273
  | rrcD                         -- CB 0A  RRC D  R273
  | rrcE                         -- CB 0B  RRC E  R273
  | rrcH                         -- CB 0C  RRC H  R273
  | rrcL                         -- CB 0D  RRC L  R273
  | rrcAtHl                      -- CB 0E  RRC (HL)  R274
  | rrcA                         -- CB 0F  RRC A  R273
  | rlB                          -- CB 10  RL B  R275
  | rlC                          -- CB 11  RL C  R275
  | rlD                          -- CB 12  RL D  R275
  | rlE                          -- CB 13  RL E  R275
  | rlH                          -- CB 14  RL H  R275
  | rlL                          -- CB 15  RL L  R275
  | rlAtHl                       -- CB 16  RL (HL)  R276
  | rlA                          -- CB 17  RL A  R275
  | rrB                          -- CB 18  RR B  R277
  | rrC                          -- CB 19  RR C  R277
  | rrD                          -- CB 1A  RR D  R277
  | rrE                          -- CB 1B  RR E  R277
  | rrH                          -- CB 1C  RR H  R277
  | rrL                          -- CB 1D  RR L  R277
  | rrAtHl                       -- CB 1E  RR (HL)  R278
  | rrA                          -- CB 1F  RR A  R277
  | slaB                         -- CB 20  SLA B  R279
  | slaC                         -- CB 21  SLA C  R279
  | slaD                         -- CB 22  SLA D  R279
  | slaE                         -- CB 23  SLA E  R279
  | slaH                         -- CB 24  SLA H  R279
  | slaL                         -- CB 25  SLA L  R279
  | slaAtHl                      -- CB 26  SLA (HL)  R280
  | slaA                         -- CB 27  SLA A  R279
  | sraB                         -- CB 28  SRA B  R281
  | sraC                         -- CB 29  SRA C  R281
  | sraD                         -- CB 2A  SRA D  R281
  | sraE                         -- CB 2B  SRA E  R281
  | sraH                         -- CB 2C  SRA H  R281
  | sraL                         -- CB 2D  SRA L  R281
  | sraAtHl                      -- CB 2E  SRA (HL)  R282
  | sraA                         -- CB 2F  SRA A  R281
  | swapB                        -- CB 30  SWAP B  R283
  | swapC                        -- CB 31  SWAP C  R283
  | swapD                        -- CB 32  SWAP D  R283
  | swapE                        -- CB 33  SWAP E  R283
  | swapH                        -- CB 34  SWAP H  R283
  | swapL                        -- CB 35  SWAP L  R283
  | swapAtHl                     -- CB 36  SWAP (HL)  R284
  | swapA                        -- CB 37  SWAP A  R283
  | srlB                         -- CB 38  SRL B  R285
  | srlC                         -- CB 39  SRL C  R285
  | srlD                         -- CB 3A  SRL D  R285
  | srlE                         -- CB 3B  SRL E  R285
  | srlH                         -- CB 3C  SRL H  R285
  | srlL                         -- CB 3D  SRL L  R285
  | srlAtHl                      -- CB 3E  SRL (HL)  R286
  | srlA                         -- CB 3F  SRL A  R285
  -- extended space, x = 1
  | bit0B                        -- CB 40  BIT 0 B  R287
  | bit0C                        -- CB 41  BIT 0 C  R287
  | bit0D                        -- CB 42  BIT 0 D  R287
  | bit0E                        -- CB 43  BIT 0 E  R287
  | bit0H                        -- CB 44  BIT 0 H  R287
  | bit0L                        -- CB 45  BIT 0 L  R287
  | bit0AtHl                     -- CB 46  BIT 0 (HL)  R288
  | bit0A                        -- CB 47  BIT 0 A  R287
  | bit1B                        -- CB 48  BIT 1 B  R287
  | bit1C                        -- CB 49  BIT 1 C  R287
  | bit1D                        -- CB 4A  BIT 1 D  R287
  | bit1E                        -- CB 4B  BIT 1 E  R287
  | bit1H                        -- CB 4C  BIT 1 H  R287
  | bit1L                        -- CB 4D  BIT 1 L  R287
  | bit1AtHl                     -- CB 4E  BIT 1 (HL)  R288
  | bit1A                        -- CB 4F  BIT 1 A  R287
  | bit2B                        -- CB 50  BIT 2 B  R287
  | bit2C                        -- CB 51  BIT 2 C  R287
  | bit2D                        -- CB 52  BIT 2 D  R287
  | bit2E                        -- CB 53  BIT 2 E  R287
  | bit2H                        -- CB 54  BIT 2 H  R287
  | bit2L                        -- CB 55  BIT 2 L  R287
  | bit2AtHl                     -- CB 56  BIT 2 (HL)  R288
  | bit2A                        -- CB 57  BIT 2 A  R287
  | bit3B                        -- CB 58  BIT 3 B  R287
  | bit3C                        -- CB 59  BIT 3 C  R287
  | bit3D                        -- CB 5A  BIT 3 D  R287
  | bit3E                        -- CB 5B  BIT 3 E  R287
  | bit3H                        -- CB 5C  BIT 3 H  R287
  | bit3L                        -- CB 5D  BIT 3 L  R287
  | bit3AtHl                     -- CB 5E  BIT 3 (HL)  R288
  | bit3A                        -- CB 5F  BIT 3 A  R287
  | bit4B                        -- CB 60  BIT 4 B  R287
  | bit4C                        -- CB 61  BIT 4 C  R287
  | bit4D                        -- CB 62  BIT 4 D  R287
  | bit4E                        -- CB 63  BIT 4 E  R287
  | bit4H                        -- CB 64  BIT 4 H  R287
  | bit4L                        -- CB 65  BIT 4 L  R287
  | bit4AtHl                     -- CB 66  BIT 4 (HL)  R288
  | bit4A                        -- CB 67  BIT 4 A  R287
  | bit5B                        -- CB 68  BIT 5 B  R287
  | bit5C                        -- CB 69  BIT 5 C  R287
  | bit5D                        -- CB 6A  BIT 5 D  R287
  | bit5E                        -- CB 6B  BIT 5 E  R287
  | bit5H                        -- CB 6C  BIT 5 H  R287
  | bit5L                        -- CB 6D  BIT 5 L  R287
  | bit5AtHl                     -- CB 6E  BIT 5 (HL)  R288
  | bit5A                        -- CB 6F  BIT 5 A  R287
  | bit6B                        -- CB 70  BIT 6 B  R287
  | bit6C                        -- CB 71  BIT 6 C  R287
  | bit6D                        -- CB 72  BIT 6 D  R287
  | bit6E                        -- CB 73  BIT 6 E  R287
  | bit6H                        -- CB 74  BIT 6 H  R287
  | bit6L                        -- CB 75  BIT 6 L  R287
  | bit6AtHl                     -- CB 76  BIT 6 (HL)  R288
  | bit6A                        -- CB 77  BIT 6 A  R287
  | bit7B                        -- CB 78  BIT 7 B  R287
  | bit7C                        -- CB 79  BIT 7 C  R287
  | bit7D                        -- CB 7A  BIT 7 D  R287
  | bit7E                        -- CB 7B  BIT 7 E  R287
  | bit7H                        -- CB 7C  BIT 7 H  R287
  | bit7L                        -- CB 7D  BIT 7 L  R287
  | bit7AtHl                     -- CB 7E  BIT 7 (HL)  R288
  | bit7A                        -- CB 7F  BIT 7 A  R287
  -- extended space, x = 2
  | res0B                        -- CB 80  RES 0 B  R289
  | res0C                        -- CB 81  RES 0 C  R289
  | res0D                        -- CB 82  RES 0 D  R289
  | res0E                        -- CB 83  RES 0 E  R289
  | res0H                        -- CB 84  RES 0 H  R289
  | res0L                        -- CB 85  RES 0 L  R289
  | res0AtHl                     -- CB 86  RES 0 (HL)  R290
  | res0A                        -- CB 87  RES 0 A  R289
  | res1B                        -- CB 88  RES 1 B  R289
  | res1C                        -- CB 89  RES 1 C  R289
  | res1D                        -- CB 8A  RES 1 D  R289
  | res1E                        -- CB 8B  RES 1 E  R289
  | res1H                        -- CB 8C  RES 1 H  R289
  | res1L                        -- CB 8D  RES 1 L  R289
  | res1AtHl                     -- CB 8E  RES 1 (HL)  R290
  | res1A                        -- CB 8F  RES 1 A  R289
  | res2B                        -- CB 90  RES 2 B  R289
  | res2C                        -- CB 91  RES 2 C  R289
  | res2D                        -- CB 92  RES 2 D  R289
  | res2E                        -- CB 93  RES 2 E  R289
  | res2H                        -- CB 94  RES 2 H  R289
  | res2L                        -- CB 95  RES 2 L  R289
  | res2AtHl                     -- CB 96  RES 2 (HL)  R290
  | res2A                        -- CB 97  RES 2 A  R289
  | res3B                        -- CB 98  RES 3 B  R289
  | res3C                        -- CB 99  RES 3 C  R289
  | res3D                        -- CB 9A  RES 3 D  R289
  | res3E                        -- CB 9B  RES 3 E  R289
  | res3H                        -- CB 9C  RES 3 H  R289
  | res3L                        -- CB 9D  RES 3 L  R289
  | res3AtHl                     -- CB 9E  RES 3 (HL)  R290
  | res3A                        -- CB 9F  RES 3 A  R289
  | res4B                        -- CB A0  RES 4 B  R289
  | res4C                        -- CB A1  RES 4 C  R289
  | res4D                        -- CB A2  RES 4 D  R289
  | res4E                        -- CB A3  RES 4 E  R289
  | res4H                        -- CB A4  RES 4 H  R289
  | res4L                        -- CB A5  RES 4 L  R289
  | res4AtHl                     -- CB A6  RES 4 (HL)  R290
  | res4A                        -- CB A7  RES 4 A  R289
  | res5B                        -- CB A8  RES 5 B  R289
  | res5C                        -- CB A9  RES 5 C  R289
  | res5D                        -- CB AA  RES 5 D  R289
  | res5E                        -- CB AB  RES 5 E  R289
  | res5H                        -- CB AC  RES 5 H  R289
  | res5L                        -- CB AD  RES 5 L  R289
  | res5AtHl                     -- CB AE  RES 5 (HL)  R290
  | res5A                        -- CB AF  RES 5 A  R289
  | res6B                        -- CB B0  RES 6 B  R289
  | res6C                        -- CB B1  RES 6 C  R289
  | res6D                        -- CB B2  RES 6 D  R289
  | res6E                        -- CB B3  RES 6 E  R289
  | res6H                        -- CB B4  RES 6 H  R289
  | res6L                        -- CB B5  RES 6 L  R289
  | res6AtHl                     -- CB B6  RES 6 (HL)  R290
  | res6A                        -- CB B7  RES 6 A  R289
  | res7B                        -- CB B8  RES 7 B  R289
  | res7C                        -- CB B9  RES 7 C  R289
  | res7D                        -- CB BA  RES 7 D  R289
  | res7E                        -- CB BB  RES 7 E  R289
  | res7H                        -- CB BC  RES 7 H  R289
  | res7L                        -- CB BD  RES 7 L  R289
  | res7AtHl                     -- CB BE  RES 7 (HL)  R290
  | res7A                        -- CB BF  RES 7 A  R289
  -- extended space, x = 3
  | set0B                        -- CB C0  SET 0 B  R291
  | set0C                        -- CB C1  SET 0 C  R291
  | set0D                        -- CB C2  SET 0 D  R291
  | set0E                        -- CB C3  SET 0 E  R291
  | set0H                        -- CB C4  SET 0 H  R291
  | set0L                        -- CB C5  SET 0 L  R291
  | set0AtHl                     -- CB C6  SET 0 (HL)  R292
  | set0A                        -- CB C7  SET 0 A  R291
  | set1B                        -- CB C8  SET 1 B  R291
  | set1C                        -- CB C9  SET 1 C  R291
  | set1D                        -- CB CA  SET 1 D  R291
  | set1E                        -- CB CB  SET 1 E  R291
  | set1H                        -- CB CC  SET 1 H  R291
  | set1L                        -- CB CD  SET 1 L  R291
  | set1AtHl                     -- CB CE  SET 1 (HL)  R292
  | set1A                        -- CB CF  SET 1 A  R291
  | set2B                        -- CB D0  SET 2 B  R291
  | set2C                        -- CB D1  SET 2 C  R291
  | set2D                        -- CB D2  SET 2 D  R291
  | set2E                        -- CB D3  SET 2 E  R291
  | set2H                        -- CB D4  SET 2 H  R291
  | set2L                        -- CB D5  SET 2 L  R291
  | set2AtHl                     -- CB D6  SET 2 (HL)  R292
  | set2A                        -- CB D7  SET 2 A  R291
  | set3B                        -- CB D8  SET 3 B  R291
  | set3C                        -- CB D9  SET 3 C  R291
  | set3D                        -- CB DA  SET 3 D  R291
  | set3E                        -- CB DB  SET 3 E  R291
  | set3H                        -- CB DC  SET 3 H  R291
  | set3L                        -- CB DD  SET 3 L  R291
  | set3AtHl                     -- CB DE  SET 3 (HL)  R292
  | set3A                        -- CB DF  SET 3 A  R291
  | set4B                        -- CB E0  SET 4 B  R291
  | set4C                        -- CB E1  SET 4 C  R291
  | set4D                        -- CB E2  SET 4 D  R291
  | set4E                        -- CB E3  SET 4 E  R291
  | set4H                        -- CB E4  SET 4 H  R291
  | set4L                        -- CB E5  SET 4 L  R291
  | set4AtHl                     -- CB E6  SET 4 (HL)  R292
  | set4A                        -- CB E7  SET 4 A  R291
  | set5B                        -- CB E8  SET 5 B  R291
  | set5C                        -- CB E9  SET 5 C  R291
  | set5D                        -- CB EA  SET 5 D  R291
  | set5E                        -- CB EB  SET 5 E  R291
  | set5H                        -- CB EC  SET 5 H  R291
  | set5L                        -- CB ED  SET 5 L  R291
  | set5AtHl                     -- CB EE  SET 5 (HL)  R292
  | set5A                        -- CB EF  SET 5 A  R291
  | set6B                        -- CB F0  SET 6 B  R291
  | set6C                        -- CB F1  SET 6 C  R291
  | set6D                        -- CB F2  SET 6 D  R291
  | set6E                        -- CB F3  SET 6 E  R291
  | set6H                        -- CB F4  SET 6 H  R291
  | set6L                        -- CB F5  SET 6 L  R291
  | set6AtHl                     -- CB F6  SET 6 (HL)  R292
  | set6A                        -- CB F7  SET 6 A  R291
  | set7B                        -- CB F8  SET 7 B  R291
  | set7C                        -- CB F9  SET 7 C  R291
  | set7D                        -- CB FA  SET 7 D  R291
  | set7E                        -- CB FB  SET 7 E  R291
  | set7H                        -- CB FC  SET 7 H  R291
  | set7L                        -- CB FD  SET 7 L  R291
  | set7AtHl                     -- CB FE  SET 7 (HL)  R292
  | set7A                        -- CB FF  SET 7 A  R291
deriving DecidableEq, Repr

/-! Families of instructions by operand field, the forms the rules of files 40 to 45 are written in. -/

/-- The ALU instruction `alu[y]` on a source operand: bytes 80 to BF and, for an immediate, C6 CE D6 DE E6 EE F6 FE (30_encoding.md R98). -/
def Instr.alu : Alu → Src → Instr
  | .add, .reg .b => .addAB
  | .add, .reg .c => .addAC
  | .add, .reg .d => .addAD
  | .add, .reg .e => .addAE
  | .add, .reg .h => .addAH
  | .add, .reg .l => .addAL
  | .add, .reg .a => .addAA
  | .add, .atHl => .addAAtHl
  | .add, .imm n => .addAD8 n
  | .adc, .reg .b => .adcAB
  | .adc, .reg .c => .adcAC
  | .adc, .reg .d => .adcAD
  | .adc, .reg .e => .adcAE
  | .adc, .reg .h => .adcAH
  | .adc, .reg .l => .adcAL
  | .adc, .reg .a => .adcAA
  | .adc, .atHl => .adcAAtHl
  | .adc, .imm n => .adcAD8 n
  | .sub, .reg .b => .subB
  | .sub, .reg .c => .subC
  | .sub, .reg .d => .subD
  | .sub, .reg .e => .subE
  | .sub, .reg .h => .subH
  | .sub, .reg .l => .subL
  | .sub, .reg .a => .subA
  | .sub, .atHl => .subAtHl
  | .sub, .imm n => .subD8 n
  | .sbc, .reg .b => .sbcAB
  | .sbc, .reg .c => .sbcAC
  | .sbc, .reg .d => .sbcAD
  | .sbc, .reg .e => .sbcAE
  | .sbc, .reg .h => .sbcAH
  | .sbc, .reg .l => .sbcAL
  | .sbc, .reg .a => .sbcAA
  | .sbc, .atHl => .sbcAAtHl
  | .sbc, .imm n => .sbcAD8 n
  | .and, .reg .b => .andB
  | .and, .reg .c => .andC
  | .and, .reg .d => .andD
  | .and, .reg .e => .andE
  | .and, .reg .h => .andH
  | .and, .reg .l => .andL
  | .and, .reg .a => .andA
  | .and, .atHl => .andAtHl
  | .and, .imm n => .andD8 n
  | .xor, .reg .b => .xorB
  | .xor, .reg .c => .xorC
  | .xor, .reg .d => .xorD
  | .xor, .reg .e => .xorE
  | .xor, .reg .h => .xorH
  | .xor, .reg .l => .xorL
  | .xor, .reg .a => .xorA
  | .xor, .atHl => .xorAtHl
  | .xor, .imm n => .xorD8 n
  | .or, .reg .b => .orB
  | .or, .reg .c => .orC
  | .or, .reg .d => .orD
  | .or, .reg .e => .orE
  | .or, .reg .h => .orH
  | .or, .reg .l => .orL
  | .or, .reg .a => .orA
  | .or, .atHl => .orAtHl
  | .or, .imm n => .orD8 n
  | .cp, .reg .b => .cpB
  | .cp, .reg .c => .cpC
  | .cp, .reg .d => .cpD
  | .cp, .reg .e => .cpE
  | .cp, .reg .h => .cpH
  | .cp, .reg .l => .cpL
  | .cp, .reg .a => .cpA
  | .cp, .atHl => .cpAtHl
  | .cp, .imm n => .cpD8 n

/-- `INC r` (40_arith_logic.md R175). -/
def Instr.incReg : Reg8 → Instr
  | .b => .incB
  | .c => .incC
  | .d => .incD
  | .e => .incE
  | .h => .incH
  | .l => .incL
  | .a => .incA

/-- `DEC r` (40_arith_logic.md R177). -/
def Instr.decReg : Reg8 → Instr
  | .b => .decB
  | .c => .decC
  | .d => .decD
  | .e => .decE
  | .h => .decH
  | .l => .decL
  | .a => .decA

/-- `ADD HL rr` (40_arith_logic.md R179). -/
def Instr.addHl : Pair → Instr
  | .bc => .addHlBc
  | .de => .addHlDe
  | .hl => .addHlHl
  | .sp => .addHlSp

/-- `INC rr` (40_arith_logic.md R180). -/
def Instr.incPair : Pair → Instr
  | .bc => .incBc
  | .de => .incDe
  | .hl => .incHl
  | .sp => .incSp

/-- `DEC rr` (40_arith_logic.md R181). -/
def Instr.decPair : Pair → Instr
  | .bc => .decBc
  | .de => .decDe
  | .hl => .decHl
  | .sp => .decSp

/-- `LD r r'` (41_load.md R221). -/
def Instr.ldReg : Reg8 → Reg8 → Instr
  | .b, .b => .ldBB
  | .b, .c => .ldBC
  | .b, .d => .ldBD
  | .b, .e => .ldBE
  | .b, .h => .ldBH
  | .b, .l => .ldBL
  | .b, .a => .ldBA
  | .c, .b => .ldCB
  | .c, .c => .ldCC
  | .c, .d => .ldCD
  | .c, .e => .ldCE
  | .c, .h => .ldCH
  | .c, .l => .ldCL
  | .c, .a => .ldCA
  | .d, .b => .ldDB
  | .d, .c => .ldDC
  | .d, .d => .ldDD
  | .d, .e => .ldDE
  | .d, .h => .ldDH
  | .d, .l => .ldDL
  | .d, .a => .ldDA
  | .e, .b => .ldEB
  | .e, .c => .ldEC
  | .e, .d => .ldED
  | .e, .e => .ldEE
  | .e, .h => .ldEH
  | .e, .l => .ldEL
  | .e, .a => .ldEA
  | .h, .b => .ldHB
  | .h, .c => .ldHC
  | .h, .d => .ldHD
  | .h, .e => .ldHE
  | .h, .h => .ldHH
  | .h, .l => .ldHL
  | .h, .a => .ldHA
  | .l, .b => .ldLB
  | .l, .c => .ldLC
  | .l, .d => .ldLD
  | .l, .e => .ldLE
  | .l, .h => .ldLH
  | .l, .l => .ldLL
  | .l, .a => .ldLA
  | .a, .b => .ldAB
  | .a, .c => .ldAC
  | .a, .d => .ldAD
  | .a, .e => .ldAE
  | .a, .h => .ldAH
  | .a, .l => .ldAL
  | .a, .a => .ldAA

/-- `LD r d8` (41_load.md R222). -/
def Instr.ldImm : Reg8 → Byte → Instr
  | .b, n => .ldBD8 n
  | .c, n => .ldCD8 n
  | .d, n => .ldDD8 n
  | .e, n => .ldED8 n
  | .h, n => .ldHD8 n
  | .l, n => .ldLD8 n
  | .a, n => .ldAD8 n

/-- `LD r (HL)` (41_load.md R223). -/
def Instr.ldFromHl : Reg8 → Instr
  | .b => .ldBAtHl
  | .c => .ldCAtHl
  | .d => .ldDAtHl
  | .e => .ldEAtHl
  | .h => .ldHAtHl
  | .l => .ldLAtHl
  | .a => .ldAAtHl

/-- `LD (HL) r` (41_load.md R224). -/
def Instr.ldToHl : Reg8 → Instr
  | .b => .ldAtHlB
  | .c => .ldAtHlC
  | .d => .ldAtHlD
  | .e => .ldAtHlE
  | .h => .ldAtHlH
  | .l => .ldAtHlL
  | .a => .ldAtHlA

/-- `LD rr d16` (41_load.md R240). -/
def Instr.ldPair : Pair → Word → Instr
  | .bc, n => .ldBcD16 n
  | .de, n => .ldDeD16 n
  | .hl, n => .ldHlD16 n
  | .sp, n => .ldSpD16 n

/-- `PUSH rr` (43_stack.md R301). -/
def Instr.push : StackPair → Instr
  | .bc => .pushBc
  | .de => .pushDe
  | .hl => .pushHl
  | .af => .pushAf

/-- `POP rr` (43_stack.md R302, R303). -/
def Instr.pop : StackPair → Instr
  | .bc => .popBc
  | .de => .popDe
  | .hl => .popHl
  | .af => .popAf

/-- `JP cc a16` (44_control.md R313). -/
def Instr.jpCond : Cond → Word → Instr
  | .nz, n => .jpNzA16 n
  | .z, n => .jpZA16 n
  | .nc, n => .jpNcA16 n
  | .c, n => .jpCA16 n

/-- `JR cc r8` (44_control.md R316). -/
def Instr.jrCond : Cond → Byte → Instr
  | .nz, n => .jrNzR8 n
  | .z, n => .jrZR8 n
  | .nc, n => .jrNcR8 n
  | .c, n => .jrCR8 n

/-- `CALL cc a16` (44_control.md R318). -/
def Instr.callCond : Cond → Word → Instr
  | .nz, n => .callNzA16 n
  | .z, n => .callZA16 n
  | .nc, n => .callNcA16 n
  | .c, n => .callCA16 n

/-- `RET cc` (44_control.md R320). -/
def Instr.retCond : Cond → Instr
  | .nz => .retNz
  | .z => .retZ
  | .nc => .retNc
  | .c => .retC

/-- `RST n` with target `8 * t` (44_control.md R322). -/
def Instr.rst : Fin 8 → Instr
  | 0 => .rst00
  | 1 => .rst08
  | 2 => .rst10
  | 3 => .rst18
  | 4 => .rst20
  | 5 => .rst28
  | 6 => .rst30
  | 7 => .rst38

/-- The extended rotate, shift or swap of a register (42_bitops_ext.md R271 to R285). -/
def Instr.rot : Rot → Reg8 → Instr
  | .rlc, .b => .rlcB
  | .rlc, .c => .rlcC
  | .rlc, .d => .rlcD
  | .rlc, .e => .rlcE
  | .rlc, .h => .rlcH
  | .rlc, .l => .rlcL
  | .rlc, .a => .rlcA
  | .rrc, .b => .rrcB
  | .rrc, .c => .rrcC
  | .rrc, .d => .rrcD
  | .rrc, .e => .rrcE
  | .rrc, .h => .rrcH
  | .rrc, .l => .rrcL
  | .rrc, .a => .rrcA
  | .rl, .b => .rlB
  | .rl, .c => .rlC
  | .rl, .d => .rlD
  | .rl, .e => .rlE
  | .rl, .h => .rlH
  | .rl, .l => .rlL
  | .rl, .a => .rlA
  | .rr, .b => .rrB
  | .rr, .c => .rrC
  | .rr, .d => .rrD
  | .rr, .e => .rrE
  | .rr, .h => .rrH
  | .rr, .l => .rrL
  | .rr, .a => .rrA
  | .sla, .b => .slaB
  | .sla, .c => .slaC
  | .sla, .d => .slaD
  | .sla, .e => .slaE
  | .sla, .h => .slaH
  | .sla, .l => .slaL
  | .sla, .a => .slaA
  | .sra, .b => .sraB
  | .sra, .c => .sraC
  | .sra, .d => .sraD
  | .sra, .e => .sraE
  | .sra, .h => .sraH
  | .sra, .l => .sraL
  | .sra, .a => .sraA
  | .swap, .b => .swapB
  | .swap, .c => .swapC
  | .swap, .d => .swapD
  | .swap, .e => .swapE
  | .swap, .h => .swapH
  | .swap, .l => .swapL
  | .swap, .a => .swapA
  | .srl, .b => .srlB
  | .srl, .c => .srlC
  | .srl, .d => .srlD
  | .srl, .e => .srlE
  | .srl, .h => .srlH
  | .srl, .l => .srlL
  | .srl, .a => .srlA

/-- The extended rotate, shift or swap of the byte at HL (42_bitops_ext.md R272 to R286). -/
def Instr.rotHl : Rot → Instr
  | .rlc => .rlcAtHl
  | .rrc => .rrcAtHl
  | .rl => .rlAtHl
  | .rr => .rrAtHl
  | .sla => .slaAtHl
  | .sra => .sraAtHl
  | .swap => .swapAtHl
  | .srl => .srlAtHl

/-- `BIT b r`, the bit index `b` being field `y` of the selector (42_bitops_ext.md R287). -/
def Instr.bit (b : Fin 8) (r : Reg8) : Instr :=
  match r with
  | .b => match b with | 0 => .bit0B | 1 => .bit1B | 2 => .bit2B | 3 => .bit3B | 4 => .bit4B | 5 => .bit5B | 6 => .bit6B | 7 => .bit7B
  | .c => match b with | 0 => .bit0C | 1 => .bit1C | 2 => .bit2C | 3 => .bit3C | 4 => .bit4C | 5 => .bit5C | 6 => .bit6C | 7 => .bit7C
  | .d => match b with | 0 => .bit0D | 1 => .bit1D | 2 => .bit2D | 3 => .bit3D | 4 => .bit4D | 5 => .bit5D | 6 => .bit6D | 7 => .bit7D
  | .e => match b with | 0 => .bit0E | 1 => .bit1E | 2 => .bit2E | 3 => .bit3E | 4 => .bit4E | 5 => .bit5E | 6 => .bit6E | 7 => .bit7E
  | .h => match b with | 0 => .bit0H | 1 => .bit1H | 2 => .bit2H | 3 => .bit3H | 4 => .bit4H | 5 => .bit5H | 6 => .bit6H | 7 => .bit7H
  | .l => match b with | 0 => .bit0L | 1 => .bit1L | 2 => .bit2L | 3 => .bit3L | 4 => .bit4L | 5 => .bit5L | 6 => .bit6L | 7 => .bit7L
  | .a => match b with | 0 => .bit0A | 1 => .bit1A | 2 => .bit2A | 3 => .bit3A | 4 => .bit4A | 5 => .bit5A | 6 => .bit6A | 7 => .bit7A

/-- `BIT b (HL)` (42_bitops_ext.md R288). -/
def Instr.bitHl : Fin 8 → Instr
  | 0 => .bit0AtHl
  | 1 => .bit1AtHl
  | 2 => .bit2AtHl
  | 3 => .bit3AtHl
  | 4 => .bit4AtHl
  | 5 => .bit5AtHl
  | 6 => .bit6AtHl
  | 7 => .bit7AtHl

/-- `RES b r`, the bit index `b` being field `y` of the selector (42_bitops_ext.md R289). -/
def Instr.res (b : Fin 8) (r : Reg8) : Instr :=
  match r with
  | .b => match b with | 0 => .res0B | 1 => .res1B | 2 => .res2B | 3 => .res3B | 4 => .res4B | 5 => .res5B | 6 => .res6B | 7 => .res7B
  | .c => match b with | 0 => .res0C | 1 => .res1C | 2 => .res2C | 3 => .res3C | 4 => .res4C | 5 => .res5C | 6 => .res6C | 7 => .res7C
  | .d => match b with | 0 => .res0D | 1 => .res1D | 2 => .res2D | 3 => .res3D | 4 => .res4D | 5 => .res5D | 6 => .res6D | 7 => .res7D
  | .e => match b with | 0 => .res0E | 1 => .res1E | 2 => .res2E | 3 => .res3E | 4 => .res4E | 5 => .res5E | 6 => .res6E | 7 => .res7E
  | .h => match b with | 0 => .res0H | 1 => .res1H | 2 => .res2H | 3 => .res3H | 4 => .res4H | 5 => .res5H | 6 => .res6H | 7 => .res7H
  | .l => match b with | 0 => .res0L | 1 => .res1L | 2 => .res2L | 3 => .res3L | 4 => .res4L | 5 => .res5L | 6 => .res6L | 7 => .res7L
  | .a => match b with | 0 => .res0A | 1 => .res1A | 2 => .res2A | 3 => .res3A | 4 => .res4A | 5 => .res5A | 6 => .res6A | 7 => .res7A

/-- `RES b (HL)` (42_bitops_ext.md R290). -/
def Instr.resHl : Fin 8 → Instr
  | 0 => .res0AtHl
  | 1 => .res1AtHl
  | 2 => .res2AtHl
  | 3 => .res3AtHl
  | 4 => .res4AtHl
  | 5 => .res5AtHl
  | 6 => .res6AtHl
  | 7 => .res7AtHl

/-- `SET b r`, the bit index `b` being field `y` of the selector (42_bitops_ext.md R291). -/
def Instr.set (b : Fin 8) (r : Reg8) : Instr :=
  match r with
  | .b => match b with | 0 => .set0B | 1 => .set1B | 2 => .set2B | 3 => .set3B | 4 => .set4B | 5 => .set5B | 6 => .set6B | 7 => .set7B
  | .c => match b with | 0 => .set0C | 1 => .set1C | 2 => .set2C | 3 => .set3C | 4 => .set4C | 5 => .set5C | 6 => .set6C | 7 => .set7C
  | .d => match b with | 0 => .set0D | 1 => .set1D | 2 => .set2D | 3 => .set3D | 4 => .set4D | 5 => .set5D | 6 => .set6D | 7 => .set7D
  | .e => match b with | 0 => .set0E | 1 => .set1E | 2 => .set2E | 3 => .set3E | 4 => .set4E | 5 => .set5E | 6 => .set6E | 7 => .set7E
  | .h => match b with | 0 => .set0H | 1 => .set1H | 2 => .set2H | 3 => .set3H | 4 => .set4H | 5 => .set5H | 6 => .set6H | 7 => .set7H
  | .l => match b with | 0 => .set0L | 1 => .set1L | 2 => .set2L | 3 => .set3L | 4 => .set4L | 5 => .set5L | 6 => .set6L | 7 => .set7L
  | .a => match b with | 0 => .set0A | 1 => .set1A | 2 => .set2A | 3 => .set3A | 4 => .set4A | 5 => .set5A | 6 => .set6A | 7 => .set7A

/-- `SET b (HL)` (42_bitops_ext.md R292). -/
def Instr.setHl : Fin 8 → Instr
  | 0 => .set0AtHl
  | 1 => .set1AtHl
  | 2 => .set2AtHl
  | 3 => .set3AtHl
  | 4 => .set4AtHl
  | 5 => .set5AtHl
  | 6 => .set6AtHl
  | 7 => .set7AtHl

/-- A byte of the eleven base slots with no instruction (30_encoding.md R120). -/
inductive Hole where
  | d3 | db | dd | e3 | e4 | eb | ec | ed | f4 | fc | fd
deriving DecidableEq, Repr

/-- The byte of a hole (30_encoding.md R120). -/
def Hole.byte : Hole → Byte
  | .d3 => 0xD3
  | .db => 0xDB
  | .dd => 0xDD
  | .e3 => 0xE3
  | .e4 => 0xE4
  | .eb => 0xEB
  | .ec => 0xEC
  | .ed => 0xED
  | .f4 => 0xF4
  | .fc => 0xFC
  | .fd => 0xFD

/-- `ILLEGAL_xx` (45_system.md R346). -/
def Instr.illegal : Hole → Instr
  | .d3 => .illegalD3
  | .db => .illegalDB
  | .dd => .illegalDD
  | .e3 => .illegalE3
  | .e4 => .illegalE4
  | .eb => .illegalEB
  | .ec => .illegalEC
  | .ed => .illegalED
  | .f4 => .illegalF4
  | .fc => .illegalFC
  | .fd => .illegalFD

end Sys2Proof
end

