-- ==== Sys2Proof/Machine/Catalog.lean ====
section
/-! DEFINITION. The opcode catalog (10_state.md R30 to R32, 30_encoding.md R120 to R125): the two tables of 256 descriptors
with every descriptor field, lookup, and the tag of each instruction. -/

namespace Sys2Proof

/-! The flag columns that occur, in the order Z N H C, `x` for unchanged (30_encoding.md R124). -/

def flxxxx : FlagEffects := ⟨.keep, .keep, .keep, .keep⟩
def flZ0Hx : FlagEffects := ⟨.computed, .clear, .computed, .keep⟩
def flZ1Hx : FlagEffects := ⟨.computed, .set, .computed, .keep⟩
def fl000C : FlagEffects := ⟨.clear, .clear, .clear, .computed⟩
def flx0HC : FlagEffects := ⟨.keep, .clear, .computed, .computed⟩
def flZx0C : FlagEffects := ⟨.computed, .keep, .clear, .computed⟩
def flx11x : FlagEffects := ⟨.keep, .set, .set, .keep⟩
def flx001 : FlagEffects := ⟨.keep, .clear, .clear, .set⟩
def flx00C : FlagEffects := ⟨.keep, .clear, .clear, .computed⟩
def flZ0HC : FlagEffects := ⟨.computed, .clear, .computed, .computed⟩
def flZ1HC : FlagEffects := ⟨.computed, .set, .computed, .computed⟩
def flZ010 : FlagEffects := ⟨.computed, .clear, .set, .clear⟩
def flZ000 : FlagEffects := ⟨.computed, .clear, .clear, .clear⟩
def fl00HC : FlagEffects := ⟨.clear, .clear, .computed, .computed⟩
def flZNHC : FlagEffects := ⟨.computed, .computed, .computed, .computed⟩
def flZ00C : FlagEffects := ⟨.computed, .clear, .clear, .computed⟩
def flZ01x : FlagEffects := ⟨.computed, .clear, .set, .keep⟩

/-- A base-space descriptor; no entry has a second encoded operand (10_state.md R31(e)). -/
def baseEntry (op : Byte) (mnemonic : String) (text : List String) (len : Nat) (k0 : OperandKind) (cycles cyclesNt : Nat)
    (flags : FlagEffects) (ct : Bool) (cls : DescClass) : Descriptor :=
  ⟨true, mnemonic, text, false, op, len, k0, .none, cycles, cyclesNt, flags, ct, cls⟩

/-- An extended-space descriptor: two bytes, no encoded operand, no control transfer (10_state.md R31(e), 42_bitops_ext.md R270). -/
def extEntry (op : Byte) (mnemonic : String) (text : List String) (cycles : Nat) (flags : FlagEffects) : Descriptor :=
  ⟨true, mnemonic, text, true, op, 2, .none, .none, cycles, cycles, flags, false, .normal⟩

/-- Row 0x of the base grid (30_encoding.md section 7). -/
def baseRow0 : List Descriptor := [
  baseEntry 0x00 "NOP" [] 1 .none 4 4 flxxxx false .normal,
  baseEntry 0x01 "LD" ["BC", "d16"] 3 .u16 12 12 flxxxx false .normal,
  baseEntry 0x02 "LD" ["(BC)", "A"] 1 .none 8 8 flxxxx false .normal,
  baseEntry 0x03 "INC" ["BC"] 1 .none 8 8 flxxxx false .normal,
  baseEntry 0x04 "INC" ["B"] 1 .none 4 4 flZ0Hx false .normal,
  baseEntry 0x05 "DEC" ["B"] 1 .none 4 4 flZ1Hx false .normal,
  baseEntry 0x06 "LD" ["B", "d8"] 2 .u8 8 8 flxxxx false .normal,
  baseEntry 0x07 "RLCA" [] 1 .none 4 4 fl000C false .normal,
  baseEntry 0x08 "LD" ["(a16)", "SP"] 3 .u16 20 20 flxxxx false .normal,
  baseEntry 0x09 "ADD" ["HL", "BC"] 1 .none 8 8 flx0HC false .normal,
  baseEntry 0x0A "LD" ["A", "(BC)"] 1 .none 8 8 flxxxx false .normal,
  baseEntry 0x0B "DEC" ["BC"] 1 .none 8 8 flxxxx false .normal,
  baseEntry 0x0C "INC" ["C"] 1 .none 4 4 flZ0Hx false .normal,
  baseEntry 0x0D "DEC" ["C"] 1 .none 4 4 flZ1Hx false .normal,
  baseEntry 0x0E "LD" ["C", "d8"] 2 .u8 8 8 flxxxx false .normal,
  baseEntry 0x0F "RRCA" [] 1 .none 4 4 fl000C false .normal]

/-- Row 1x of the base grid (30_encoding.md section 7). -/
def baseRow1 : List Descriptor := [
  baseEntry 0x10 "STOP" ["0"] 1 .none 4 4 flxxxx false .normal,
  baseEntry 0x11 "LD" ["DE", "d16"] 3 .u16 12 12 flxxxx false .normal,
  baseEntry 0x12 "LD" ["(DE)", "A"] 1 .none 8 8 flxxxx false .normal,
  baseEntry 0x13 "INC" ["DE"] 1 .none 8 8 flxxxx false .normal,
  baseEntry 0x14 "INC" ["D"] 1 .none 4 4 flZ0Hx false .normal,
  baseEntry 0x15 "DEC" ["D"] 1 .none 4 4 flZ1Hx false .normal,
  baseEntry 0x16 "LD" ["D", "d8"] 2 .u8 8 8 flxxxx false .normal,
  baseEntry 0x17 "RLA" [] 1 .none 4 4 fl000C false .normal,
  baseEntry 0x18 "JR" ["r8"] 2 .s8 12 12 flxxxx true .normal,
  baseEntry 0x19 "ADD" ["HL", "DE"] 1 .none 8 8 flx0HC false .normal,
  baseEntry 0x1A "LD" ["A", "(DE)"] 1 .none 8 8 flxxxx false .normal,
  baseEntry 0x1B "DEC" ["DE"] 1 .none 8 8 flxxxx false .normal,
  baseEntry 0x1C "INC" ["E"] 1 .none 4 4 flZ0Hx false .normal,
  baseEntry 0x1D "DEC" ["E"] 1 .none 4 4 flZ1Hx false .normal,
  baseEntry 0x1E "LD" ["E", "d8"] 2 .u8 8 8 flxxxx false .normal,
  baseEntry 0x1F "RRA" [] 1 .none 4 4 fl000C false .normal]

/-- Row 2x of the base grid (30_encoding.md section 7). -/
def baseRow2 : List Descriptor := [
  baseEntry 0x20 "JR" ["NZ", "r8"] 2 .s8 12 8 flxxxx true .normal,
  baseEntry 0x21 "LD" ["HL", "d16"] 3 .u16 12 12 flxxxx false .normal,
  baseEntry 0x22 "LD" ["(HL+)", "A"] 1 .none 8 8 flxxxx false .normal,
  baseEntry 0x23 "INC" ["HL"] 1 .none 8 8 flxxxx false .normal,
  baseEntry 0x24 "INC" ["H"] 1 .none 4 4 flZ0Hx false .normal,
  baseEntry 0x25 "DEC" ["H"] 1 .none 4 4 flZ1Hx false .normal,
  baseEntry 0x26 "LD" ["H", "d8"] 2 .u8 8 8 flxxxx false .normal,
  baseEntry 0x27 "DAA" [] 1 .none 4 4 flZx0C false .normal,
  baseEntry 0x28 "JR" ["Z", "r8"] 2 .s8 12 8 flxxxx true .normal,
  baseEntry 0x29 "ADD" ["HL", "HL"] 1 .none 8 8 flx0HC false .normal,
  baseEntry 0x2A "LD" ["A", "(HL+)"] 1 .none 8 8 flxxxx false .normal,
  baseEntry 0x2B "DEC" ["HL"] 1 .none 8 8 flxxxx false .normal,
  baseEntry 0x2C "INC" ["L"] 1 .none 4 4 flZ0Hx false .normal,
  baseEntry 0x2D "DEC" ["L"] 1 .none 4 4 flZ1Hx false .normal,
  baseEntry 0x2E "LD" ["L", "d8"] 2 .u8 8 8 flxxxx false .normal,
  baseEntry 0x2F "CPL" [] 1 .none 4 4 flx11x false .normal]

/-- Row 3x of the base grid (30_encoding.md section 7). -/
def baseRow3 : List Descriptor := [
  baseEntry 0x30 "JR" ["NC", "r8"] 2 .s8 12 8 flxxxx true .normal,
  baseEntry 0x31 "LD" ["SP", "d16"] 3 .u16 12 12 flxxxx false .normal,
  baseEntry 0x32 "LD" ["(HL-)", "A"] 1 .none 8 8 flxxxx false .normal,
  baseEntry 0x33 "INC" ["SP"] 1 .none 8 8 flxxxx false .normal,
  baseEntry 0x34 "INC" ["(HL)"] 1 .none 12 12 flZ0Hx false .normal,
  baseEntry 0x35 "DEC" ["(HL)"] 1 .none 12 12 flZ1Hx false .normal,
  baseEntry 0x36 "LD" ["(HL)", "d8"] 2 .u8 12 12 flxxxx false .normal,
  baseEntry 0x37 "SCF" [] 1 .none 4 4 flx001 false .normal,
  baseEntry 0x38 "JR" ["C", "r8"] 2 .s8 12 8 flxxxx true .normal,
  baseEntry 0x39 "ADD" ["HL", "SP"] 1 .none 8 8 flx0HC false .normal,
  baseEntry 0x3A "LD" ["A", "(HL-)"] 1 .none 8 8 flxxxx false .normal,
  baseEntry 0x3B "DEC" ["SP"] 1 .none 8 8 flxxxx false .normal,
  baseEntry 0x3C "INC" ["A"] 1 .none 4 4 flZ0Hx false .normal,
  baseEntry 0x3D "DEC" ["A"] 1 .none 4 4 flZ1Hx false .normal,
  baseEntry 0x3E "LD" ["A", "d8"] 2 .u8 8 8 flxxxx false .normal,
  baseEntry 0x3F "CCF" [] 1 .none 4 4 flx00C false .normal]

/-- Row 4x of the base grid (30_encoding.md section 7). -/
def baseRow4 : List Descriptor := [
  baseEntry 0x40 "LD" ["B", "B"] 1 .none 4 4 flxxxx false .normal,
  baseEntry 0x41 "LD" ["B", "C"] 1 .none 4 4 flxxxx false .normal,
  baseEntry 0x42 "LD" ["B", "D"] 1 .none 4 4 flxxxx false .normal,
  baseEntry 0x43 "LD" ["B", "E"] 1 .none 4 4 flxxxx false .normal,
  baseEntry 0x44 "LD" ["B", "H"] 1 .none 4 4 flxxxx false .normal,
  baseEntry 0x45 "LD" ["B", "L"] 1 .none 4 4 flxxxx false .normal,
  baseEntry 0x46 "LD" ["B", "(HL)"] 1 .none 8 8 flxxxx false .normal,
  baseEntry 0x47 "LD" ["B", "A"] 1 .none 4 4 flxxxx false .normal,
  baseEntry 0x48 "LD" ["C", "B"] 1 .none 4 4 flxxxx false .normal,
  baseEntry 0x49 "LD" ["C", "C"] 1 .none 4 4 flxxxx false .normal,
  baseEntry 0x4A "LD" ["C", "D"] 1 .none 4 4 flxxxx false .normal,
  baseEntry 0x4B "LD" ["C", "E"] 1 .none 4 4 flxxxx false .normal,
  baseEntry 0x4C "LD" ["C", "H"] 1 .none 4 4 flxxxx false .normal,
  baseEntry 0x4D "LD" ["C", "L"] 1 .none 4 4 flxxxx false .normal,
  baseEntry 0x4E "LD" ["C", "(HL)"] 1 .none 8 8 flxxxx false .normal,
  baseEntry 0x4F "LD" ["C", "A"] 1 .none 4 4 flxxxx false .normal]

/-- Row 5x of the base grid (30_encoding.md section 7). -/
def baseRow5 : List Descriptor := [
  baseEntry 0x50 "LD" ["D", "B"] 1 .none 4 4 flxxxx false .normal,
  baseEntry 0x51 "LD" ["D", "C"] 1 .none 4 4 flxxxx false .normal,
  baseEntry 0x52 "LD" ["D", "D"] 1 .none 4 4 flxxxx false .normal,
  baseEntry 0x53 "LD" ["D", "E"] 1 .none 4 4 flxxxx false .normal,
  baseEntry 0x54 "LD" ["D", "H"] 1 .none 4 4 flxxxx false .normal,
  baseEntry 0x55 "LD" ["D", "L"] 1 .none 4 4 flxxxx false .normal,
  baseEntry 0x56 "LD" ["D", "(HL)"] 1 .none 8 8 flxxxx false .normal,
  baseEntry 0x57 "LD" ["D", "A"] 1 .none 4 4 flxxxx false .normal,
  baseEntry 0x58 "LD" ["E", "B"] 1 .none 4 4 flxxxx false .normal,
  baseEntry 0x59 "LD" ["E", "C"] 1 .none 4 4 flxxxx false .normal,
  baseEntry 0x5A "LD" ["E", "D"] 1 .none 4 4 flxxxx false .normal,
  baseEntry 0x5B "LD" ["E", "E"] 1 .none 4 4 flxxxx false .normal,
  baseEntry 0x5C "LD" ["E", "H"] 1 .none 4 4 flxxxx false .normal,
  baseEntry 0x5D "LD" ["E", "L"] 1 .none 4 4 flxxxx false .normal,
  baseEntry 0x5E "LD" ["E", "(HL)"] 1 .none 8 8 flxxxx false .normal,
  baseEntry 0x5F "LD" ["E", "A"] 1 .none 4 4 flxxxx false .normal]

/-- Row 6x of the base grid (30_encoding.md section 7). -/
def baseRow6 : List Descriptor := [
  baseEntry 0x60 "LD" ["H", "B"] 1 .none 4 4 flxxxx false .normal,
  baseEntry 0x61 "LD" ["H", "C"] 1 .none 4 4 flxxxx false .normal,
  baseEntry 0x62 "LD" ["H", "D"] 1 .none 4 4 flxxxx false .normal,
  baseEntry 0x63 "LD" ["H", "E"] 1 .none 4 4 flxxxx false .normal,
  baseEntry 0x64 "LD" ["H", "H"] 1 .none 4 4 flxxxx false .normal,
  baseEntry 0x65 "LD" ["H", "L"] 1 .none 4 4 flxxxx false .normal,
  baseEntry 0x66 "LD" ["H", "(HL)"] 1 .none 8 8 flxxxx false .normal,
  baseEntry 0x67 "LD" ["H", "A"] 1 .none 4 4 flxxxx false .normal,
  baseEntry 0x68 "LD" ["L", "B"] 1 .none 4 4 flxxxx false .normal,
  baseEntry 0x69 "LD" ["L", "C"] 1 .none 4 4 flxxxx false .normal,
  baseEntry 0x6A "LD" ["L", "D"] 1 .none 4 4 flxxxx false .normal,
  baseEntry 0x6B "LD" ["L", "E"] 1 .none 4 4 flxxxx false .normal,
  baseEntry 0x6C "LD" ["L", "H"] 1 .none 4 4 flxxxx false .normal,
  baseEntry 0x6D "LD" ["L", "L"] 1 .none 4 4 flxxxx false .normal,
  baseEntry 0x6E "LD" ["L", "(HL)"] 1 .none 8 8 flxxxx false .normal,
  baseEntry 0x6F "LD" ["L", "A"] 1 .none 4 4 flxxxx false .normal]

/-- Row 7x of the base grid (30_encoding.md section 7). -/
def baseRow7 : List Descriptor := [
  baseEntry 0x70 "LD" ["(HL)", "B"] 1 .none 8 8 flxxxx false .normal,
  baseEntry 0x71 "LD" ["(HL)", "C"] 1 .none 8 8 flxxxx false .normal,
  baseEntry 0x72 "LD" ["(HL)", "D"] 1 .none 8 8 flxxxx false .normal,
  baseEntry 0x73 "LD" ["(HL)", "E"] 1 .none 8 8 flxxxx false .normal,
  baseEntry 0x74 "LD" ["(HL)", "H"] 1 .none 8 8 flxxxx false .normal,
  baseEntry 0x75 "LD" ["(HL)", "L"] 1 .none 8 8 flxxxx false .normal,
  baseEntry 0x76 "HALT" [] 1 .none 4 4 flxxxx false .halt,
  baseEntry 0x77 "LD" ["(HL)", "A"] 1 .none 8 8 flxxxx false .normal,
  baseEntry 0x78 "LD" ["A", "B"] 1 .none 4 4 flxxxx false .normal,
  baseEntry 0x79 "LD" ["A", "C"] 1 .none 4 4 flxxxx false .normal,
  baseEntry 0x7A "LD" ["A", "D"] 1 .none 4 4 flxxxx false .normal,
  baseEntry 0x7B "LD" ["A", "E"] 1 .none 4 4 flxxxx false .normal,
  baseEntry 0x7C "LD" ["A", "H"] 1 .none 4 4 flxxxx false .normal,
  baseEntry 0x7D "LD" ["A", "L"] 1 .none 4 4 flxxxx false .normal,
  baseEntry 0x7E "LD" ["A", "(HL)"] 1 .none 8 8 flxxxx false .normal,
  baseEntry 0x7F "LD" ["A", "A"] 1 .none 4 4 flxxxx false .normal]

/-- Row 8x of the base grid (30_encoding.md section 7). -/
def baseRow8 : List Descriptor := [
  baseEntry 0x80 "ADD" ["A", "B"] 1 .none 4 4 flZ0HC false .normal,
  baseEntry 0x81 "ADD" ["A", "C"] 1 .none 4 4 flZ0HC false .normal,
  baseEntry 0x82 "ADD" ["A", "D"] 1 .none 4 4 flZ0HC false .normal,
  baseEntry 0x83 "ADD" ["A", "E"] 1 .none 4 4 flZ0HC false .normal,
  baseEntry 0x84 "ADD" ["A", "H"] 1 .none 4 4 flZ0HC false .normal,
  baseEntry 0x85 "ADD" ["A", "L"] 1 .none 4 4 flZ0HC false .normal,
  baseEntry 0x86 "ADD" ["A", "(HL)"] 1 .none 8 8 flZ0HC false .normal,
  baseEntry 0x87 "ADD" ["A", "A"] 1 .none 4 4 flZ0HC false .normal,
  baseEntry 0x88 "ADC" ["A", "B"] 1 .none 4 4 flZ0HC false .normal,
  baseEntry 0x89 "ADC" ["A", "C"] 1 .none 4 4 flZ0HC false .normal,
  baseEntry 0x8A "ADC" ["A", "D"] 1 .none 4 4 flZ0HC false .normal,
  baseEntry 0x8B "ADC" ["A", "E"] 1 .none 4 4 flZ0HC false .normal,
  baseEntry 0x8C "ADC" ["A", "H"] 1 .none 4 4 flZ0HC false .normal,
  baseEntry 0x8D "ADC" ["A", "L"] 1 .none 4 4 flZ0HC false .normal,
  baseEntry 0x8E "ADC" ["A", "(HL)"] 1 .none 8 8 flZ0HC false .normal,
  baseEntry 0x8F "ADC" ["A", "A"] 1 .none 4 4 flZ0HC false .normal]

/-- Row 9x of the base grid (30_encoding.md section 7). -/
def baseRow9 : List Descriptor := [
  baseEntry 0x90 "SUB" ["B"] 1 .none 4 4 flZ1HC false .normal,
  baseEntry 0x91 "SUB" ["C"] 1 .none 4 4 flZ1HC false .normal,
  baseEntry 0x92 "SUB" ["D"] 1 .none 4 4 flZ1HC false .normal,
  baseEntry 0x93 "SUB" ["E"] 1 .none 4 4 flZ1HC false .normal,
  baseEntry 0x94 "SUB" ["H"] 1 .none 4 4 flZ1HC false .normal,
  baseEntry 0x95 "SUB" ["L"] 1 .none 4 4 flZ1HC false .normal,
  baseEntry 0x96 "SUB" ["(HL)"] 1 .none 8 8 flZ1HC false .normal,
  baseEntry 0x97 "SUB" ["A"] 1 .none 4 4 flZ1HC false .normal,
  baseEntry 0x98 "SBC" ["A", "B"] 1 .none 4 4 flZ1HC false .normal,
  baseEntry 0x99 "SBC" ["A", "C"] 1 .none 4 4 flZ1HC false .normal,
  baseEntry 0x9A "SBC" ["A", "D"] 1 .none 4 4 flZ1HC false .normal,
  baseEntry 0x9B "SBC" ["A", "E"] 1 .none 4 4 flZ1HC false .normal,
  baseEntry 0x9C "SBC" ["A", "H"] 1 .none 4 4 flZ1HC false .normal,
  baseEntry 0x9D "SBC" ["A", "L"] 1 .none 4 4 flZ1HC false .normal,
  baseEntry 0x9E "SBC" ["A", "(HL)"] 1 .none 8 8 flZ1HC false .normal,
  baseEntry 0x9F "SBC" ["A", "A"] 1 .none 4 4 flZ1HC false .normal]

/-- Row Ax of the base grid (30_encoding.md section 7). -/
def baseRowA : List Descriptor := [
  baseEntry 0xA0 "AND" ["B"] 1 .none 4 4 flZ010 false .normal,
  baseEntry 0xA1 "AND" ["C"] 1 .none 4 4 flZ010 false .normal,
  baseEntry 0xA2 "AND" ["D"] 1 .none 4 4 flZ010 false .normal,
  baseEntry 0xA3 "AND" ["E"] 1 .none 4 4 flZ010 false .normal,
  baseEntry 0xA4 "AND" ["H"] 1 .none 4 4 flZ010 false .normal,
  baseEntry 0xA5 "AND" ["L"] 1 .none 4 4 flZ010 false .normal,
  baseEntry 0xA6 "AND" ["(HL)"] 1 .none 8 8 flZ010 false .normal,
  baseEntry 0xA7 "AND" ["A"] 1 .none 4 4 flZ010 false .normal,
  baseEntry 0xA8 "XOR" ["B"] 1 .none 4 4 flZ000 false .normal,
  baseEntry 0xA9 "XOR" ["C"] 1 .none 4 4 flZ000 false .normal,
  baseEntry 0xAA "XOR" ["D"] 1 .none 4 4 flZ000 false .normal,
  baseEntry 0xAB "XOR" ["E"] 1 .none 4 4 flZ000 false .normal,
  baseEntry 0xAC "XOR" ["H"] 1 .none 4 4 flZ000 false .normal,
  baseEntry 0xAD "XOR" ["L"] 1 .none 4 4 flZ000 false .normal,
  baseEntry 0xAE "XOR" ["(HL)"] 1 .none 8 8 flZ000 false .normal,
  baseEntry 0xAF "XOR" ["A"] 1 .none 4 4 flZ000 false .normal]

/-- Row Bx of the base grid (30_encoding.md section 7). -/
def baseRowB : List Descriptor := [
  baseEntry 0xB0 "OR" ["B"] 1 .none 4 4 flZ000 false .normal,
  baseEntry 0xB1 "OR" ["C"] 1 .none 4 4 flZ000 false .normal,
  baseEntry 0xB2 "OR" ["D"] 1 .none 4 4 flZ000 false .normal,
  baseEntry 0xB3 "OR" ["E"] 1 .none 4 4 flZ000 false .normal,
  baseEntry 0xB4 "OR" ["H"] 1 .none 4 4 flZ000 false .normal,
  baseEntry 0xB5 "OR" ["L"] 1 .none 4 4 flZ000 false .normal,
  baseEntry 0xB6 "OR" ["(HL)"] 1 .none 8 8 flZ000 false .normal,
  baseEntry 0xB7 "OR" ["A"] 1 .none 4 4 flZ000 false .normal,
  baseEntry 0xB8 "CP" ["B"] 1 .none 4 4 flZ1HC false .normal,
  baseEntry 0xB9 "CP" ["C"] 1 .none 4 4 flZ1HC false .normal,
  baseEntry 0xBA "CP" ["D"] 1 .none 4 4 flZ1HC false .normal,
  baseEntry 0xBB "CP" ["E"] 1 .none 4 4 flZ1HC false .normal,
  baseEntry 0xBC "CP" ["H"] 1 .none 4 4 flZ1HC false .normal,
  baseEntry 0xBD "CP" ["L"] 1 .none 4 4 flZ1HC false .normal,
  baseEntry 0xBE "CP" ["(HL)"] 1 .none 8 8 flZ1HC false .normal,
  baseEntry 0xBF "CP" ["A"] 1 .none 4 4 flZ1HC false .normal]

/-- Row Cx of the base grid (30_encoding.md section 7). -/
def baseRowC : List Descriptor := [
  baseEntry 0xC0 "RET" ["NZ"] 1 .none 20 8 flxxxx true .normal,
  baseEntry 0xC1 "POP" ["BC"] 1 .none 12 12 flxxxx false .normal,
  baseEntry 0xC2 "JP" ["NZ", "a16"] 3 .u16 16 12 flxxxx true .normal,
  baseEntry 0xC3 "JP" ["a16"] 3 .u16 16 16 flxxxx true .normal,
  baseEntry 0xC4 "CALL" ["NZ", "a16"] 3 .u16 24 12 flxxxx true .normal,
  baseEntry 0xC5 "PUSH" ["BC"] 1 .none 16 16 flxxxx false .normal,
  baseEntry 0xC6 "ADD" ["A", "d8"] 2 .u8 8 8 flZ0HC false .normal,
  baseEntry 0xC7 "RST" ["00H"] 1 .none 16 16 flxxxx true .normal,
  baseEntry 0xC8 "RET" ["Z"] 1 .none 20 8 flxxxx true .normal,
  baseEntry 0xC9 "RET" [] 1 .none 16 16 flxxxx true .normal,
  baseEntry 0xCA "JP" ["Z", "a16"] 3 .u16 16 12 flxxxx true .normal,
  baseEntry 0xCB "PREFIX" ["CB"] 1 .none 4 4 flxxxx false .prefixSlot,
  baseEntry 0xCC "CALL" ["Z", "a16"] 3 .u16 24 12 flxxxx true .normal,
  baseEntry 0xCD "CALL" ["a16"] 3 .u16 24 24 flxxxx true .normal,
  baseEntry 0xCE "ADC" ["A", "d8"] 2 .u8 8 8 flZ0HC false .normal,
  baseEntry 0xCF "RST" ["08H"] 1 .none 16 16 flxxxx true .normal]

/-- Row Dx of the base grid (30_encoding.md section 7). -/
def baseRowD : List Descriptor := [
  baseEntry 0xD0 "RET" ["NC"] 1 .none 20 8 flxxxx true .normal,
  baseEntry 0xD1 "POP" ["DE"] 1 .none 12 12 flxxxx false .normal,
  baseEntry 0xD2 "JP" ["NC", "a16"] 3 .u16 16 12 flxxxx true .normal,
  baseEntry 0xD3 "ILLEGAL_D3" [] 1 .none 4 4 flxxxx false .illegal,
  baseEntry 0xD4 "CALL" ["NC", "a16"] 3 .u16 24 12 flxxxx true .normal,
  baseEntry 0xD5 "PUSH" ["DE"] 1 .none 16 16 flxxxx false .normal,
  baseEntry 0xD6 "SUB" ["d8"] 2 .u8 8 8 flZ1HC false .normal,
  baseEntry 0xD7 "RST" ["10H"] 1 .none 16 16 flxxxx true .normal,
  baseEntry 0xD8 "RET" ["C"] 1 .none 20 8 flxxxx true .normal,
  baseEntry 0xD9 "RETI" [] 1 .none 16 16 flxxxx true .normal,
  baseEntry 0xDA "JP" ["C", "a16"] 3 .u16 16 12 flxxxx true .normal,
  baseEntry 0xDB "ILLEGAL_DB" [] 1 .none 4 4 flxxxx false .illegal,
  baseEntry 0xDC "CALL" ["C", "a16"] 3 .u16 24 12 flxxxx true .normal,
  baseEntry 0xDD "ILLEGAL_DD" [] 1 .none 4 4 flxxxx false .illegal,
  baseEntry 0xDE "SBC" ["A", "d8"] 2 .u8 8 8 flZ1HC false .normal,
  baseEntry 0xDF "RST" ["18H"] 1 .none 16 16 flxxxx true .normal]

/-- Row Ex of the base grid (30_encoding.md section 7). -/
def baseRowE : List Descriptor := [
  baseEntry 0xE0 "LDH" ["(a8)", "A"] 2 .u8 12 12 flxxxx false .normal,
  baseEntry 0xE1 "POP" ["HL"] 1 .none 12 12 flxxxx false .normal,
  baseEntry 0xE2 "LD" ["(C)", "A"] 1 .none 8 8 flxxxx false .normal,
  baseEntry 0xE3 "ILLEGAL_E3" [] 1 .none 4 4 flxxxx false .illegal,
  baseEntry 0xE4 "ILLEGAL_E4" [] 1 .none 4 4 flxxxx false .illegal,
  baseEntry 0xE5 "PUSH" ["HL"] 1 .none 16 16 flxxxx false .normal,
  baseEntry 0xE6 "AND" ["d8"] 2 .u8 8 8 flZ010 false .normal,
  baseEntry 0xE7 "RST" ["20H"] 1 .none 16 16 flxxxx true .normal,
  baseEntry 0xE8 "ADD" ["SP", "r8"] 2 .s8 16 16 fl00HC false .normal,
  baseEntry 0xE9 "JP" ["(HL)"] 1 .none 4 4 flxxxx true .normal,
  baseEntry 0xEA "LD" ["(a16)", "A"] 3 .u16 16 16 flxxxx false .normal,
  baseEntry 0xEB "ILLEGAL_EB" [] 1 .none 4 4 flxxxx false .illegal,
  baseEntry 0xEC "ILLEGAL_EC" [] 1 .none 4 4 flxxxx false .illegal,
  baseEntry 0xED "ILLEGAL_ED" [] 1 .none 4 4 flxxxx false .illegal,
  baseEntry 0xEE "XOR" ["d8"] 2 .u8 8 8 flZ000 false .normal,
  baseEntry 0xEF "RST" ["28H"] 1 .none 16 16 flxxxx true .normal]

/-- Row Fx of the base grid (30_encoding.md section 7). -/
def baseRowF : List Descriptor := [
  baseEntry 0xF0 "LDH" ["A", "(a8)"] 2 .u8 12 12 flxxxx false .normal,
  baseEntry 0xF1 "POP" ["AF"] 1 .none 12 12 flZNHC false .normal,
  baseEntry 0xF2 "LD" ["A", "(C)"] 1 .none 8 8 flxxxx false .normal,
  baseEntry 0xF3 "DI" [] 1 .none 4 4 flxxxx false .normal,
  baseEntry 0xF4 "ILLEGAL_F4" [] 1 .none 4 4 flxxxx false .illegal,
  baseEntry 0xF5 "PUSH" ["AF"] 1 .none 16 16 flxxxx false .normal,
  baseEntry 0xF6 "OR" ["d8"] 2 .u8 8 8 flZ000 false .normal,
  baseEntry 0xF7 "RST" ["30H"] 1 .none 16 16 flxxxx true .normal,
  baseEntry 0xF8 "LD" ["HL", "SP+r8"] 2 .s8 12 12 fl00HC false .normal,
  baseEntry 0xF9 "LD" ["SP", "HL"] 1 .none 8 8 flxxxx false .normal,
  baseEntry 0xFA "LD" ["A", "(a16)"] 3 .u16 16 16 flxxxx false .normal,
  baseEntry 0xFB "EI" [] 1 .none 4 4 flxxxx false .normal,
  baseEntry 0xFC "ILLEGAL_FC" [] 1 .none 4 4 flxxxx false .illegal,
  baseEntry 0xFD "ILLEGAL_FD" [] 1 .none 4 4 flxxxx false .illegal,
  baseEntry 0xFE "CP" ["d8"] 2 .u8 8 8 flZ1HC false .normal,
  baseEntry 0xFF "RST" ["38H"] 1 .none 16 16 flxxxx true .normal]

/-- Row 0x of the extended grid (30_encoding.md section 7). -/
def extRow0 : List Descriptor := [
  extEntry 0x00 "RLC" ["B"] 8 flZ00C,
  extEntry 0x01 "RLC" ["C"] 8 flZ00C,
  extEntry 0x02 "RLC" ["D"] 8 flZ00C,
  extEntry 0x03 "RLC" ["E"] 8 flZ00C,
  extEntry 0x04 "RLC" ["H"] 8 flZ00C,
  extEntry 0x05 "RLC" ["L"] 8 flZ00C,
  extEntry 0x06 "RLC" ["(HL)"] 16 flZ00C,
  extEntry 0x07 "RLC" ["A"] 8 flZ00C,
  extEntry 0x08 "RRC" ["B"] 8 flZ00C,
  extEntry 0x09 "RRC" ["C"] 8 flZ00C,
  extEntry 0x0A "RRC" ["D"] 8 flZ00C,
  extEntry 0x0B "RRC" ["E"] 8 flZ00C,
  extEntry 0x0C "RRC" ["H"] 8 flZ00C,
  extEntry 0x0D "RRC" ["L"] 8 flZ00C,
  extEntry 0x0E "RRC" ["(HL)"] 16 flZ00C,
  extEntry 0x0F "RRC" ["A"] 8 flZ00C]

/-- Row 1x of the extended grid (30_encoding.md section 7). -/
def extRow1 : List Descriptor := [
  extEntry 0x10 "RL" ["B"] 8 flZ00C,
  extEntry 0x11 "RL" ["C"] 8 flZ00C,
  extEntry 0x12 "RL" ["D"] 8 flZ00C,
  extEntry 0x13 "RL" ["E"] 8 flZ00C,
  extEntry 0x14 "RL" ["H"] 8 flZ00C,
  extEntry 0x15 "RL" ["L"] 8 flZ00C,
  extEntry 0x16 "RL" ["(HL)"] 16 flZ00C,
  extEntry 0x17 "RL" ["A"] 8 flZ00C,
  extEntry 0x18 "RR" ["B"] 8 flZ00C,
  extEntry 0x19 "RR" ["C"] 8 flZ00C,
  extEntry 0x1A "RR" ["D"] 8 flZ00C,
  extEntry 0x1B "RR" ["E"] 8 flZ00C,
  extEntry 0x1C "RR" ["H"] 8 flZ00C,
  extEntry 0x1D "RR" ["L"] 8 flZ00C,
  extEntry 0x1E "RR" ["(HL)"] 16 flZ00C,
  extEntry 0x1F "RR" ["A"] 8 flZ00C]

/-- Row 2x of the extended grid (30_encoding.md section 7). -/
def extRow2 : List Descriptor := [
  extEntry 0x20 "SLA" ["B"] 8 flZ00C,
  extEntry 0x21 "SLA" ["C"] 8 flZ00C,
  extEntry 0x22 "SLA" ["D"] 8 flZ00C,
  extEntry 0x23 "SLA" ["E"] 8 flZ00C,
  extEntry 0x24 "SLA" ["H"] 8 flZ00C,
  extEntry 0x25 "SLA" ["L"] 8 flZ00C,
  extEntry 0x26 "SLA" ["(HL)"] 16 flZ00C,
  extEntry 0x27 "SLA" ["A"] 8 flZ00C,
  extEntry 0x28 "SRA" ["B"] 8 flZ00C,
  extEntry 0x29 "SRA" ["C"] 8 flZ00C,
  extEntry 0x2A "SRA" ["D"] 8 flZ00C,
  extEntry 0x2B "SRA" ["E"] 8 flZ00C,
  extEntry 0x2C "SRA" ["H"] 8 flZ00C,
  extEntry 0x2D "SRA" ["L"] 8 flZ00C,
  extEntry 0x2E "SRA" ["(HL)"] 16 flZ00C,
  extEntry 0x2F "SRA" ["A"] 8 flZ00C]

/-- Row 3x of the extended grid (30_encoding.md section 7). -/
def extRow3 : List Descriptor := [
  extEntry 0x30 "SWAP" ["B"] 8 flZ000,
  extEntry 0x31 "SWAP" ["C"] 8 flZ000,
  extEntry 0x32 "SWAP" ["D"] 8 flZ000,
  extEntry 0x33 "SWAP" ["E"] 8 flZ000,
  extEntry 0x34 "SWAP" ["H"] 8 flZ000,
  extEntry 0x35 "SWAP" ["L"] 8 flZ000,
  extEntry 0x36 "SWAP" ["(HL)"] 16 flZ000,
  extEntry 0x37 "SWAP" ["A"] 8 flZ000,
  extEntry 0x38 "SRL" ["B"] 8 flZ00C,
  extEntry 0x39 "SRL" ["C"] 8 flZ00C,
  extEntry 0x3A "SRL" ["D"] 8 flZ00C,
  extEntry 0x3B "SRL" ["E"] 8 flZ00C,
  extEntry 0x3C "SRL" ["H"] 8 flZ00C,
  extEntry 0x3D "SRL" ["L"] 8 flZ00C,
  extEntry 0x3E "SRL" ["(HL)"] 16 flZ00C,
  extEntry 0x3F "SRL" ["A"] 8 flZ00C]

/-- Row 4x of the extended grid (30_encoding.md section 7). -/
def extRow4 : List Descriptor := [
  extEntry 0x40 "BIT" ["0", "B"] 8 flZ01x,
  extEntry 0x41 "BIT" ["0", "C"] 8 flZ01x,
  extEntry 0x42 "BIT" ["0", "D"] 8 flZ01x,
  extEntry 0x43 "BIT" ["0", "E"] 8 flZ01x,
  extEntry 0x44 "BIT" ["0", "H"] 8 flZ01x,
  extEntry 0x45 "BIT" ["0", "L"] 8 flZ01x,
  extEntry 0x46 "BIT" ["0", "(HL)"] 12 flZ01x,
  extEntry 0x47 "BIT" ["0", "A"] 8 flZ01x,
  extEntry 0x48 "BIT" ["1", "B"] 8 flZ01x,
  extEntry 0x49 "BIT" ["1", "C"] 8 flZ01x,
  extEntry 0x4A "BIT" ["1", "D"] 8 flZ01x,
  extEntry 0x4B "BIT" ["1", "E"] 8 flZ01x,
  extEntry 0x4C "BIT" ["1", "H"] 8 flZ01x,
  extEntry 0x4D "BIT" ["1", "L"] 8 flZ01x,
  extEntry 0x4E "BIT" ["1", "(HL)"] 12 flZ01x,
  extEntry 0x4F "BIT" ["1", "A"] 8 flZ01x]

/-- Row 5x of the extended grid (30_encoding.md section 7). -/
def extRow5 : List Descriptor := [
  extEntry 0x50 "BIT" ["2", "B"] 8 flZ01x,
  extEntry 0x51 "BIT" ["2", "C"] 8 flZ01x,
  extEntry 0x52 "BIT" ["2", "D"] 8 flZ01x,
  extEntry 0x53 "BIT" ["2", "E"] 8 flZ01x,
  extEntry 0x54 "BIT" ["2", "H"] 8 flZ01x,
  extEntry 0x55 "BIT" ["2", "L"] 8 flZ01x,
  extEntry 0x56 "BIT" ["2", "(HL)"] 12 flZ01x,
  extEntry 0x57 "BIT" ["2", "A"] 8 flZ01x,
  extEntry 0x58 "BIT" ["3", "B"] 8 flZ01x,
  extEntry 0x59 "BIT" ["3", "C"] 8 flZ01x,
  extEntry 0x5A "BIT" ["3", "D"] 8 flZ01x,
  extEntry 0x5B "BIT" ["3", "E"] 8 flZ01x,
  extEntry 0x5C "BIT" ["3", "H"] 8 flZ01x,
  extEntry 0x5D "BIT" ["3", "L"] 8 flZ01x,
  extEntry 0x5E "BIT" ["3", "(HL)"] 12 flZ01x,
  extEntry 0x5F "BIT" ["3", "A"] 8 flZ01x]

/-- Row 6x of the extended grid (30_encoding.md section 7). -/
def extRow6 : List Descriptor := [
  extEntry 0x60 "BIT" ["4", "B"] 8 flZ01x,
  extEntry 0x61 "BIT" ["4", "C"] 8 flZ01x,
  extEntry 0x62 "BIT" ["4", "D"] 8 flZ01x,
  extEntry 0x63 "BIT" ["4", "E"] 8 flZ01x,
  extEntry 0x64 "BIT" ["4", "H"] 8 flZ01x,
  extEntry 0x65 "BIT" ["4", "L"] 8 flZ01x,
  extEntry 0x66 "BIT" ["4", "(HL)"] 12 flZ01x,
  extEntry 0x67 "BIT" ["4", "A"] 8 flZ01x,
  extEntry 0x68 "BIT" ["5", "B"] 8 flZ01x,
  extEntry 0x69 "BIT" ["5", "C"] 8 flZ01x,
  extEntry 0x6A "BIT" ["5", "D"] 8 flZ01x,
  extEntry 0x6B "BIT" ["5", "E"] 8 flZ01x,
  extEntry 0x6C "BIT" ["5", "H"] 8 flZ01x,
  extEntry 0x6D "BIT" ["5", "L"] 8 flZ01x,
  extEntry 0x6E "BIT" ["5", "(HL)"] 12 flZ01x,
  extEntry 0x6F "BIT" ["5", "A"] 8 flZ01x]

/-- Row 7x of the extended grid (30_encoding.md section 7). -/
def extRow7 : List Descriptor := [
  extEntry 0x70 "BIT" ["6", "B"] 8 flZ01x,
  extEntry 0x71 "BIT" ["6", "C"] 8 flZ01x,
  extEntry 0x72 "BIT" ["6", "D"] 8 flZ01x,
  extEntry 0x73 "BIT" ["6", "E"] 8 flZ01x,
  extEntry 0x74 "BIT" ["6", "H"] 8 flZ01x,
  extEntry 0x75 "BIT" ["6", "L"] 8 flZ01x,
  extEntry 0x76 "BIT" ["6", "(HL)"] 12 flZ01x,
  extEntry 0x77 "BIT" ["6", "A"] 8 flZ01x,
  extEntry 0x78 "BIT" ["7", "B"] 8 flZ01x,
  extEntry 0x79 "BIT" ["7", "C"] 8 flZ01x,
  extEntry 0x7A "BIT" ["7", "D"] 8 flZ01x,
  extEntry 0x7B "BIT" ["7", "E"] 8 flZ01x,
  extEntry 0x7C "BIT" ["7", "H"] 8 flZ01x,
  extEntry 0x7D "BIT" ["7", "L"] 8 flZ01x,
  extEntry 0x7E "BIT" ["7", "(HL)"] 12 flZ01x,
  extEntry 0x7F "BIT" ["7", "A"] 8 flZ01x]

/-- Row 8x of the extended grid (30_encoding.md section 7). -/
def extRow8 : List Descriptor := [
  extEntry 0x80 "RES" ["0", "B"] 8 flxxxx,
  extEntry 0x81 "RES" ["0", "C"] 8 flxxxx,
  extEntry 0x82 "RES" ["0", "D"] 8 flxxxx,
  extEntry 0x83 "RES" ["0", "E"] 8 flxxxx,
  extEntry 0x84 "RES" ["0", "H"] 8 flxxxx,
  extEntry 0x85 "RES" ["0", "L"] 8 flxxxx,
  extEntry 0x86 "RES" ["0", "(HL)"] 16 flxxxx,
  extEntry 0x87 "RES" ["0", "A"] 8 flxxxx,
  extEntry 0x88 "RES" ["1", "B"] 8 flxxxx,
  extEntry 0x89 "RES" ["1", "C"] 8 flxxxx,
  extEntry 0x8A "RES" ["1", "D"] 8 flxxxx,
  extEntry 0x8B "RES" ["1", "E"] 8 flxxxx,
  extEntry 0x8C "RES" ["1", "H"] 8 flxxxx,
  extEntry 0x8D "RES" ["1", "L"] 8 flxxxx,
  extEntry 0x8E "RES" ["1", "(HL)"] 16 flxxxx,
  extEntry 0x8F "RES" ["1", "A"] 8 flxxxx]

/-- Row 9x of the extended grid (30_encoding.md section 7). -/
def extRow9 : List Descriptor := [
  extEntry 0x90 "RES" ["2", "B"] 8 flxxxx,
  extEntry 0x91 "RES" ["2", "C"] 8 flxxxx,
  extEntry 0x92 "RES" ["2", "D"] 8 flxxxx,
  extEntry 0x93 "RES" ["2", "E"] 8 flxxxx,
  extEntry 0x94 "RES" ["2", "H"] 8 flxxxx,
  extEntry 0x95 "RES" ["2", "L"] 8 flxxxx,
  extEntry 0x96 "RES" ["2", "(HL)"] 16 flxxxx,
  extEntry 0x97 "RES" ["2", "A"] 8 flxxxx,
  extEntry 0x98 "RES" ["3", "B"] 8 flxxxx,
  extEntry 0x99 "RES" ["3", "C"] 8 flxxxx,
  extEntry 0x9A "RES" ["3", "D"] 8 flxxxx,
  extEntry 0x9B "RES" ["3", "E"] 8 flxxxx,
  extEntry 0x9C "RES" ["3", "H"] 8 flxxxx,
  extEntry 0x9D "RES" ["3", "L"] 8 flxxxx,
  extEntry 0x9E "RES" ["3", "(HL)"] 16 flxxxx,
  extEntry 0x9F "RES" ["3", "A"] 8 flxxxx]

/-- Row Ax of the extended grid (30_encoding.md section 7). -/
def extRowA : List Descriptor := [
  extEntry 0xA0 "RES" ["4", "B"] 8 flxxxx,
  extEntry 0xA1 "RES" ["4", "C"] 8 flxxxx,
  extEntry 0xA2 "RES" ["4", "D"] 8 flxxxx,
  extEntry 0xA3 "RES" ["4", "E"] 8 flxxxx,
  extEntry 0xA4 "RES" ["4", "H"] 8 flxxxx,
  extEntry 0xA5 "RES" ["4", "L"] 8 flxxxx,
  extEntry 0xA6 "RES" ["4", "(HL)"] 16 flxxxx,
  extEntry 0xA7 "RES" ["4", "A"] 8 flxxxx,
  extEntry 0xA8 "RES" ["5", "B"] 8 flxxxx,
  extEntry 0xA9 "RES" ["5", "C"] 8 flxxxx,
  extEntry 0xAA "RES" ["5", "D"] 8 flxxxx,
  extEntry 0xAB "RES" ["5", "E"] 8 flxxxx,
  extEntry 0xAC "RES" ["5", "H"] 8 flxxxx,
  extEntry 0xAD "RES" ["5", "L"] 8 flxxxx,
  extEntry 0xAE "RES" ["5", "(HL)"] 16 flxxxx,
  extEntry 0xAF "RES" ["5", "A"] 8 flxxxx]

/-- Row Bx of the extended grid (30_encoding.md section 7). -/
def extRowB : List Descriptor := [
  extEntry 0xB0 "RES" ["6", "B"] 8 flxxxx,
  extEntry 0xB1 "RES" ["6", "C"] 8 flxxxx,
  extEntry 0xB2 "RES" ["6", "D"] 8 flxxxx,
  extEntry 0xB3 "RES" ["6", "E"] 8 flxxxx,
  extEntry 0xB4 "RES" ["6", "H"] 8 flxxxx,
  extEntry 0xB5 "RES" ["6", "L"] 8 flxxxx,
  extEntry 0xB6 "RES" ["6", "(HL)"] 16 flxxxx,
  extEntry 0xB7 "RES" ["6", "A"] 8 flxxxx,
  extEntry 0xB8 "RES" ["7", "B"] 8 flxxxx,
  extEntry 0xB9 "RES" ["7", "C"] 8 flxxxx,
  extEntry 0xBA "RES" ["7", "D"] 8 flxxxx,
  extEntry 0xBB "RES" ["7", "E"] 8 flxxxx,
  extEntry 0xBC "RES" ["7", "H"] 8 flxxxx,
  extEntry 0xBD "RES" ["7", "L"] 8 flxxxx,
  extEntry 0xBE "RES" ["7", "(HL)"] 16 flxxxx,
  extEntry 0xBF "RES" ["7", "A"] 8 flxxxx]

/-- Row Cx of the extended grid (30_encoding.md section 7). -/
def extRowC : List Descriptor := [
  extEntry 0xC0 "SET" ["0", "B"] 8 flxxxx,
  extEntry 0xC1 "SET" ["0", "C"] 8 flxxxx,
  extEntry 0xC2 "SET" ["0", "D"] 8 flxxxx,
  extEntry 0xC3 "SET" ["0", "E"] 8 flxxxx,
  extEntry 0xC4 "SET" ["0", "H"] 8 flxxxx,
  extEntry 0xC5 "SET" ["0", "L"] 8 flxxxx,
  extEntry 0xC6 "SET" ["0", "(HL)"] 16 flxxxx,
  extEntry 0xC7 "SET" ["0", "A"] 8 flxxxx,
  extEntry 0xC8 "SET" ["1", "B"] 8 flxxxx,
  extEntry 0xC9 "SET" ["1", "C"] 8 flxxxx,
  extEntry 0xCA "SET" ["1", "D"] 8 flxxxx,
  extEntry 0xCB "SET" ["1", "E"] 8 flxxxx,
  extEntry 0xCC "SET" ["1", "H"] 8 flxxxx,
  extEntry 0xCD "SET" ["1", "L"] 8 flxxxx,
  extEntry 0xCE "SET" ["1", "(HL)"] 16 flxxxx,
  extEntry 0xCF "SET" ["1", "A"] 8 flxxxx]

/-- Row Dx of the extended grid (30_encoding.md section 7). -/
def extRowD : List Descriptor := [
  extEntry 0xD0 "SET" ["2", "B"] 8 flxxxx,
  extEntry 0xD1 "SET" ["2", "C"] 8 flxxxx,
  extEntry 0xD2 "SET" ["2", "D"] 8 flxxxx,
  extEntry 0xD3 "SET" ["2", "E"] 8 flxxxx,
  extEntry 0xD4 "SET" ["2", "H"] 8 flxxxx,
  extEntry 0xD5 "SET" ["2", "L"] 8 flxxxx,
  extEntry 0xD6 "SET" ["2", "(HL)"] 16 flxxxx,
  extEntry 0xD7 "SET" ["2", "A"] 8 flxxxx,
  extEntry 0xD8 "SET" ["3", "B"] 8 flxxxx,
  extEntry 0xD9 "SET" ["3", "C"] 8 flxxxx,
  extEntry 0xDA "SET" ["3", "D"] 8 flxxxx,
  extEntry 0xDB "SET" ["3", "E"] 8 flxxxx,
  extEntry 0xDC "SET" ["3", "H"] 8 flxxxx,
  extEntry 0xDD "SET" ["3", "L"] 8 flxxxx,
  extEntry 0xDE "SET" ["3", "(HL)"] 16 flxxxx,
  extEntry 0xDF "SET" ["3", "A"] 8 flxxxx]

/-- Row Ex of the extended grid (30_encoding.md section 7). -/
def extRowE : List Descriptor := [
  extEntry 0xE0 "SET" ["4", "B"] 8 flxxxx,
  extEntry 0xE1 "SET" ["4", "C"] 8 flxxxx,
  extEntry 0xE2 "SET" ["4", "D"] 8 flxxxx,
  extEntry 0xE3 "SET" ["4", "E"] 8 flxxxx,
  extEntry 0xE4 "SET" ["4", "H"] 8 flxxxx,
  extEntry 0xE5 "SET" ["4", "L"] 8 flxxxx,
  extEntry 0xE6 "SET" ["4", "(HL)"] 16 flxxxx,
  extEntry 0xE7 "SET" ["4", "A"] 8 flxxxx,
  extEntry 0xE8 "SET" ["5", "B"] 8 flxxxx,
  extEntry 0xE9 "SET" ["5", "C"] 8 flxxxx,
  extEntry 0xEA "SET" ["5", "D"] 8 flxxxx,
  extEntry 0xEB "SET" ["5", "E"] 8 flxxxx,
  extEntry 0xEC "SET" ["5", "H"] 8 flxxxx,
  extEntry 0xED "SET" ["5", "L"] 8 flxxxx,
  extEntry 0xEE "SET" ["5", "(HL)"] 16 flxxxx,
  extEntry 0xEF "SET" ["5", "A"] 8 flxxxx]

/-- Row Fx of the extended grid (30_encoding.md section 7). -/
def extRowF : List Descriptor := [
  extEntry 0xF0 "SET" ["6", "B"] 8 flxxxx,
  extEntry 0xF1 "SET" ["6", "C"] 8 flxxxx,
  extEntry 0xF2 "SET" ["6", "D"] 8 flxxxx,
  extEntry 0xF3 "SET" ["6", "E"] 8 flxxxx,
  extEntry 0xF4 "SET" ["6", "H"] 8 flxxxx,
  extEntry 0xF5 "SET" ["6", "L"] 8 flxxxx,
  extEntry 0xF6 "SET" ["6", "(HL)"] 16 flxxxx,
  extEntry 0xF7 "SET" ["6", "A"] 8 flxxxx,
  extEntry 0xF8 "SET" ["7", "B"] 8 flxxxx,
  extEntry 0xF9 "SET" ["7", "C"] 8 flxxxx,
  extEntry 0xFA "SET" ["7", "D"] 8 flxxxx,
  extEntry 0xFB "SET" ["7", "E"] 8 flxxxx,
  extEntry 0xFC "SET" ["7", "H"] 8 flxxxx,
  extEntry 0xFD "SET" ["7", "L"] 8 flxxxx,
  extEntry 0xFE "SET" ["7", "(HL)"] 16 flxxxx,
  extEntry 0xFF "SET" ["7", "A"] 8 flxxxx]

/-- The base grid by row. -/
def baseRow : Nat → List Descriptor
  | 0 => baseRow0
  | 1 => baseRow1
  | 2 => baseRow2
  | 3 => baseRow3
  | 4 => baseRow4
  | 5 => baseRow5
  | 6 => baseRow6
  | 7 => baseRow7
  | 8 => baseRow8
  | 9 => baseRow9
  | 10 => baseRowA
  | 11 => baseRowB
  | 12 => baseRowC
  | 13 => baseRowD
  | 14 => baseRowE
  | 15 => baseRowF
  | _ => []

/-- The extended grid by row. -/
def extRow : Nat → List Descriptor
  | 0 => extRow0
  | 1 => extRow1
  | 2 => extRow2
  | 3 => extRow3
  | 4 => extRow4
  | 5 => extRow5
  | 6 => extRow6
  | 7 => extRow7
  | 8 => extRow8
  | 9 => extRow9
  | 10 => extRowA
  | 11 => extRowB
  | 12 => extRowC
  | 13 => extRowD
  | 14 => extRowE
  | 15 => extRowF
  | _ => []

/-- The value of an index outside the grid; a byte never gives one. -/
def noDescriptor : Descriptor := ⟨false, "", [], false, 0, 0, .none, .none, 0, 0, flxxxx, false, .prefixSlot⟩

/-- `BaseCat[op]` (10_state.md R30, 30_encoding.md R124). -/
def baseCat (op : Byte) : Descriptor := (baseRow (op.toNat / 16)).getD (op.toNat % 16) noDescriptor

/-- `ExtCat[op]` with no slot absent (10_state.md R30, 30_encoding.md R124). -/
def extCat (op : Byte) : Descriptor := (extRow (op.toNat / 16)).getD (op.toNat % 16) noDescriptor

/-- `Lookup(ext, op)`; `present` is 0 in the extended space exactly for the bytes of `EXT_ABSENT` (10_state.md R31, R32,
30_encoding.md R121). -/
def lookup (absent : List Byte) (ext : Bool) (op : Byte) : Descriptor :=
  match ext with
  | false => baseCat op
  | true => { extCat op with present := !absent.contains op }

/-- `fmask` as four bits in the order Z N H C: may the instruction modify the flag (30_encoding.md R124). -/
def FlagEffects.fmask (f : FlagEffects) : List Bool := [f.z, f.n, f.h, f.c].map (fun e => e != .keep)

/-- The Instruction struct of a typed instruction: its tag and its raw operand, zero-extended (10_state.md R33). -/
def Instr.toRaw : Instr → RawInstr
  | .nop => ⟨false, 0x00, 0, 0⟩
  | .ldBcD16 n => ⟨false, 0x01, n, 0⟩
  | .ldAtBcA => ⟨false, 0x02, 0, 0⟩
  | .incBc => ⟨false, 0x03, 0, 0⟩
  | .incB => ⟨false, 0x04, 0, 0⟩
  | .decB => ⟨false, 0x05, 0, 0⟩
  | .ldBD8 n => ⟨false, 0x06, zext16 n, 0⟩
  | .rlcAcc => ⟨false, 0x07, 0, 0⟩
  | .ldAtA16Sp n => ⟨false, 0x08, n, 0⟩
  | .addHlBc => ⟨false, 0x09, 0, 0⟩
  | .ldAAtBc => ⟨false, 0x0A, 0, 0⟩
  | .decBc => ⟨false, 0x0B, 0, 0⟩
  | .incC => ⟨false, 0x0C, 0, 0⟩
  | .decC => ⟨false, 0x0D, 0, 0⟩
  | .ldCD8 n => ⟨false, 0x0E, zext16 n, 0⟩
  | .rrcAcc => ⟨false, 0x0F, 0, 0⟩
  | .stop0 => ⟨false, 0x10, 0, 0⟩
  | .ldDeD16 n => ⟨false, 0x11, n, 0⟩
  | .ldAtDeA => ⟨false, 0x12, 0, 0⟩
  | .incDe => ⟨false, 0x13, 0, 0⟩
  | .incD => ⟨false, 0x14, 0, 0⟩
  | .decD => ⟨false, 0x15, 0, 0⟩
  | .ldDD8 n => ⟨false, 0x16, zext16 n, 0⟩
  | .rlAcc => ⟨false, 0x17, 0, 0⟩
  | .jrR8 n => ⟨false, 0x18, zext16 n, 0⟩
  | .addHlDe => ⟨false, 0x19, 0, 0⟩
  | .ldAAtDe => ⟨false, 0x1A, 0, 0⟩
  | .decDe => ⟨false, 0x1B, 0, 0⟩
  | .incE => ⟨false, 0x1C, 0, 0⟩
  | .decE => ⟨false, 0x1D, 0, 0⟩
  | .ldED8 n => ⟨false, 0x1E, zext16 n, 0⟩
  | .rrAcc => ⟨false, 0x1F, 0, 0⟩
  | .jrNzR8 n => ⟨false, 0x20, zext16 n, 0⟩
  | .ldHlD16 n => ⟨false, 0x21, n, 0⟩
  | .ldAtHlIncA => ⟨false, 0x22, 0, 0⟩
  | .incHl => ⟨false, 0x23, 0, 0⟩
  | .incH => ⟨false, 0x24, 0, 0⟩
  | .decH => ⟨false, 0x25, 0, 0⟩
  | .ldHD8 n => ⟨false, 0x26, zext16 n, 0⟩
  | .daa => ⟨false, 0x27, 0, 0⟩
  | .jrZR8 n => ⟨false, 0x28, zext16 n, 0⟩
  | .addHlHl => ⟨false, 0x29, 0, 0⟩
  | .ldAAtHlInc => ⟨false, 0x2A, 0, 0⟩
  | .decHl => ⟨false, 0x2B, 0, 0⟩
  | .incL => ⟨false, 0x2C, 0, 0⟩
  | .decL => ⟨false, 0x2D, 0, 0⟩
  | .ldLD8 n => ⟨false, 0x2E, zext16 n, 0⟩
  | .cplAcc => ⟨false, 0x2F, 0, 0⟩
  | .jrNcR8 n => ⟨false, 0x30, zext16 n, 0⟩
  | .ldSpD16 n => ⟨false, 0x31, n, 0⟩
  | .ldAtHlDecA => ⟨false, 0x32, 0, 0⟩
  | .incSp => ⟨false, 0x33, 0, 0⟩
  | .incAtHl => ⟨false, 0x34, 0, 0⟩
  | .decAtHl => ⟨false, 0x35, 0, 0⟩
  | .ldAtHlD8 n => ⟨false, 0x36, zext16 n, 0⟩
  | .scf => ⟨false, 0x37, 0, 0⟩
  | .jrCR8 n => ⟨false, 0x38, zext16 n, 0⟩
  | .addHlSp => ⟨false, 0x39, 0, 0⟩
  | .ldAAtHlDec => ⟨false, 0x3A, 0, 0⟩
  | .decSp => ⟨false, 0x3B, 0, 0⟩
  | .incA => ⟨false, 0x3C, 0, 0⟩
  | .decA => ⟨false, 0x3D, 0, 0⟩
  | .ldAD8 n => ⟨false, 0x3E, zext16 n, 0⟩
  | .ccf => ⟨false, 0x3F, 0, 0⟩
  | .ldBB => ⟨false, 0x40, 0, 0⟩
  | .ldBC => ⟨false, 0x41, 0, 0⟩
  | .ldBD => ⟨false, 0x42, 0, 0⟩
  | .ldBE => ⟨false, 0x43, 0, 0⟩
  | .ldBH => ⟨false, 0x44, 0, 0⟩
  | .ldBL => ⟨false, 0x45, 0, 0⟩
  | .ldBAtHl => ⟨false, 0x46, 0, 0⟩
  | .ldBA => ⟨false, 0x47, 0, 0⟩
  | .ldCB => ⟨false, 0x48, 0, 0⟩
  | .ldCC => ⟨false, 0x49, 0, 0⟩
  | .ldCD => ⟨false, 0x4A, 0, 0⟩
  | .ldCE => ⟨false, 0x4B, 0, 0⟩
  | .ldCH => ⟨false, 0x4C, 0, 0⟩
  | .ldCL => ⟨false, 0x4D, 0, 0⟩
  | .ldCAtHl => ⟨false, 0x4E, 0, 0⟩
  | .ldCA => ⟨false, 0x4F, 0, 0⟩
  | .ldDB => ⟨false, 0x50, 0, 0⟩
  | .ldDC => ⟨false, 0x51, 0, 0⟩
  | .ldDD => ⟨false, 0x52, 0, 0⟩
  | .ldDE => ⟨false, 0x53, 0, 0⟩
  | .ldDH => ⟨false, 0x54, 0, 0⟩
  | .ldDL => ⟨false, 0x55, 0, 0⟩
  | .ldDAtHl => ⟨false, 0x56, 0, 0⟩
  | .ldDA => ⟨false, 0x57, 0, 0⟩
  | .ldEB => ⟨false, 0x58, 0, 0⟩
  | .ldEC => ⟨false, 0x59, 0, 0⟩
  | .ldED => ⟨false, 0x5A, 0, 0⟩
  | .ldEE => ⟨false, 0x5B, 0, 0⟩
  | .ldEH => ⟨false, 0x5C, 0, 0⟩
  | .ldEL => ⟨false, 0x5D, 0, 0⟩
  | .ldEAtHl => ⟨false, 0x5E, 0, 0⟩
  | .ldEA => ⟨false, 0x5F, 0, 0⟩
  | .ldHB => ⟨false, 0x60, 0, 0⟩
  | .ldHC => ⟨false, 0x61, 0, 0⟩
  | .ldHD => ⟨false, 0x62, 0, 0⟩
  | .ldHE => ⟨false, 0x63, 0, 0⟩
  | .ldHH => ⟨false, 0x64, 0, 0⟩
  | .ldHL => ⟨false, 0x65, 0, 0⟩
  | .ldHAtHl => ⟨false, 0x66, 0, 0⟩
  | .ldHA => ⟨false, 0x67, 0, 0⟩
  | .ldLB => ⟨false, 0x68, 0, 0⟩
  | .ldLC => ⟨false, 0x69, 0, 0⟩
  | .ldLD => ⟨false, 0x6A, 0, 0⟩
  | .ldLE => ⟨false, 0x6B, 0, 0⟩
  | .ldLH => ⟨false, 0x6C, 0, 0⟩
  | .ldLL => ⟨false, 0x6D, 0, 0⟩
  | .ldLAtHl => ⟨false, 0x6E, 0, 0⟩
  | .ldLA => ⟨false, 0x6F, 0, 0⟩
  | .ldAtHlB => ⟨false, 0x70, 0, 0⟩
  | .ldAtHlC => ⟨false, 0x71, 0, 0⟩
  | .ldAtHlD => ⟨false, 0x72, 0, 0⟩
  | .ldAtHlE => ⟨false, 0x73, 0, 0⟩
  | .ldAtHlH => ⟨false, 0x74, 0, 0⟩
  | .ldAtHlL => ⟨false, 0x75, 0, 0⟩
  | .halt => ⟨false, 0x76, 0, 0⟩
  | .ldAtHlA => ⟨false, 0x77, 0, 0⟩
  | .ldAB => ⟨false, 0x78, 0, 0⟩
  | .ldAC => ⟨false, 0x79, 0, 0⟩
  | .ldAD => ⟨false, 0x7A, 0, 0⟩
  | .ldAE => ⟨false, 0x7B, 0, 0⟩
  | .ldAH => ⟨false, 0x7C, 0, 0⟩
  | .ldAL => ⟨false, 0x7D, 0, 0⟩
  | .ldAAtHl => ⟨false, 0x7E, 0, 0⟩
  | .ldAA => ⟨false, 0x7F, 0, 0⟩
  | .addAB => ⟨false, 0x80, 0, 0⟩
  | .addAC => ⟨false, 0x81, 0, 0⟩
  | .addAD => ⟨false, 0x82, 0, 0⟩
  | .addAE => ⟨false, 0x83, 0, 0⟩
  | .addAH => ⟨false, 0x84, 0, 0⟩
  | .addAL => ⟨false, 0x85, 0, 0⟩
  | .addAAtHl => ⟨false, 0x86, 0, 0⟩
  | .addAA => ⟨false, 0x87, 0, 0⟩
  | .adcAB => ⟨false, 0x88, 0, 0⟩
  | .adcAC => ⟨false, 0x89, 0, 0⟩
  | .adcAD => ⟨false, 0x8A, 0, 0⟩
  | .adcAE => ⟨false, 0x8B, 0, 0⟩
  | .adcAH => ⟨false, 0x8C, 0, 0⟩
  | .adcAL => ⟨false, 0x8D, 0, 0⟩
  | .adcAAtHl => ⟨false, 0x8E, 0, 0⟩
  | .adcAA => ⟨false, 0x8F, 0, 0⟩
  | .subB => ⟨false, 0x90, 0, 0⟩
  | .subC => ⟨false, 0x91, 0, 0⟩
  | .subD => ⟨false, 0x92, 0, 0⟩
  | .subE => ⟨false, 0x93, 0, 0⟩
  | .subH => ⟨false, 0x94, 0, 0⟩
  | .subL => ⟨false, 0x95, 0, 0⟩
  | .subAtHl => ⟨false, 0x96, 0, 0⟩
  | .subA => ⟨false, 0x97, 0, 0⟩
  | .sbcAB => ⟨false, 0x98, 0, 0⟩
  | .sbcAC => ⟨false, 0x99, 0, 0⟩
  | .sbcAD => ⟨false, 0x9A, 0, 0⟩
  | .sbcAE => ⟨false, 0x9B, 0, 0⟩
  | .sbcAH => ⟨false, 0x9C, 0, 0⟩
  | .sbcAL => ⟨false, 0x9D, 0, 0⟩
  | .sbcAAtHl => ⟨false, 0x9E, 0, 0⟩
  | .sbcAA => ⟨false, 0x9F, 0, 0⟩
  | .andB => ⟨false, 0xA0, 0, 0⟩
  | .andC => ⟨false, 0xA1, 0, 0⟩
  | .andD => ⟨false, 0xA2, 0, 0⟩
  | .andE => ⟨false, 0xA3, 0, 0⟩
  | .andH => ⟨false, 0xA4, 0, 0⟩
  | .andL => ⟨false, 0xA5, 0, 0⟩
  | .andAtHl => ⟨false, 0xA6, 0, 0⟩
  | .andA => ⟨false, 0xA7, 0, 0⟩
  | .xorB => ⟨false, 0xA8, 0, 0⟩
  | .xorC => ⟨false, 0xA9, 0, 0⟩
  | .xorD => ⟨false, 0xAA, 0, 0⟩
  | .xorE => ⟨false, 0xAB, 0, 0⟩
  | .xorH => ⟨false, 0xAC, 0, 0⟩
  | .xorL => ⟨false, 0xAD, 0, 0⟩
  | .xorAtHl => ⟨false, 0xAE, 0, 0⟩
  | .xorA => ⟨false, 0xAF, 0, 0⟩
  | .orB => ⟨false, 0xB0, 0, 0⟩
  | .orC => ⟨false, 0xB1, 0, 0⟩
  | .orD => ⟨false, 0xB2, 0, 0⟩
  | .orE => ⟨false, 0xB3, 0, 0⟩
  | .orH => ⟨false, 0xB4, 0, 0⟩
  | .orL => ⟨false, 0xB5, 0, 0⟩
  | .orAtHl => ⟨false, 0xB6, 0, 0⟩
  | .orA => ⟨false, 0xB7, 0, 0⟩
  | .cpB => ⟨false, 0xB8, 0, 0⟩
  | .cpC => ⟨false, 0xB9, 0, 0⟩
  | .cpD => ⟨false, 0xBA, 0, 0⟩
  | .cpE => ⟨false, 0xBB, 0, 0⟩
  | .cpH => ⟨false, 0xBC, 0, 0⟩
  | .cpL => ⟨false, 0xBD, 0, 0⟩
  | .cpAtHl => ⟨false, 0xBE, 0, 0⟩
  | .cpA => ⟨false, 0xBF, 0, 0⟩
  | .retNz => ⟨false, 0xC0, 0, 0⟩
  | .popBc => ⟨false, 0xC1, 0, 0⟩
  | .jpNzA16 n => ⟨false, 0xC2, n, 0⟩
  | .jpA16 n => ⟨false, 0xC3, n, 0⟩
  | .callNzA16 n => ⟨false, 0xC4, n, 0⟩
  | .pushBc => ⟨false, 0xC5, 0, 0⟩
  | .addAD8 n => ⟨false, 0xC6, zext16 n, 0⟩
  | .rst00 => ⟨false, 0xC7, 0, 0⟩
  | .retZ => ⟨false, 0xC8, 0, 0⟩
  | .ret => ⟨false, 0xC9, 0, 0⟩
  | .jpZA16 n => ⟨false, 0xCA, n, 0⟩
  | .prefixCb => ⟨false, 0xCB, 0, 0⟩
  | .callZA16 n => ⟨false, 0xCC, n, 0⟩
  | .callA16 n => ⟨false, 0xCD, n, 0⟩
  | .adcAD8 n => ⟨false, 0xCE, zext16 n, 0⟩
  | .rst08 => ⟨false, 0xCF, 0, 0⟩
  | .retNc => ⟨false, 0xD0, 0, 0⟩
  | .popDe => ⟨false, 0xD1, 0, 0⟩
  | .jpNcA16 n => ⟨false, 0xD2, n, 0⟩
  | .illegalD3 => ⟨false, 0xD3, 0, 0⟩
  | .callNcA16 n => ⟨false, 0xD4, n, 0⟩
  | .pushDe => ⟨false, 0xD5, 0, 0⟩
  | .subD8 n => ⟨false, 0xD6, zext16 n, 0⟩
  | .rst10 => ⟨false, 0xD7, 0, 0⟩
  | .retC => ⟨false, 0xD8, 0, 0⟩
  | .reti => ⟨false, 0xD9, 0, 0⟩
  | .jpCA16 n => ⟨false, 0xDA, n, 0⟩
  | .illegalDB => ⟨false, 0xDB, 0, 0⟩
  | .callCA16 n => ⟨false, 0xDC, n, 0⟩
  | .illegalDD => ⟨false, 0xDD, 0, 0⟩
  | .sbcAD8 n => ⟨false, 0xDE, zext16 n, 0⟩
  | .rst18 => ⟨false, 0xDF, 0, 0⟩
  | .ldhAtA8A n => ⟨false, 0xE0, zext16 n, 0⟩
  | .popHl => ⟨false, 0xE1, 0, 0⟩
  | .ldAtCA => ⟨false, 0xE2, 0, 0⟩
  | .illegalE3 => ⟨false, 0xE3, 0, 0⟩
  | .illegalE4 => ⟨false, 0xE4, 0, 0⟩
  | .pushHl => ⟨false, 0xE5, 0, 0⟩
  | .andD8 n => ⟨false, 0xE6, zext16 n, 0⟩
  | .rst20 => ⟨false, 0xE7, 0, 0⟩
  | .addSpR8 n => ⟨false, 0xE8, zext16 n, 0⟩
  | .jpAtHl => ⟨false, 0xE9, 0, 0⟩
  | .ldAtA16A n => ⟨false, 0xEA, n, 0⟩
  | .illegalEB => ⟨false, 0xEB, 0, 0⟩
  | .illegalEC => ⟨false, 0xEC, 0, 0⟩
  | .illegalED => ⟨false, 0xED, 0, 0⟩
  | .xorD8 n => ⟨false, 0xEE, zext16 n, 0⟩
  | .rst28 => ⟨false, 0xEF, 0, 0⟩
  | .ldhAAtA8 n => ⟨false, 0xF0, zext16 n, 0⟩
  | .popAf => ⟨false, 0xF1, 0, 0⟩
  | .ldAAtC => ⟨false, 0xF2, 0, 0⟩
  | .di => ⟨false, 0xF3, 0, 0⟩
  | .illegalF4 => ⟨false, 0xF4, 0, 0⟩
  | .pushAf => ⟨false, 0xF5, 0, 0⟩
  | .orD8 n => ⟨false, 0xF6, zext16 n, 0⟩
  | .rst30 => ⟨false, 0xF7, 0, 0⟩
  | .ldHlSpR8 n => ⟨false, 0xF8, zext16 n, 0⟩
  | .ldSpHl => ⟨false, 0xF9, 0, 0⟩
  | .ldAAtA16 n => ⟨false, 0xFA, n, 0⟩
  | .ei => ⟨false, 0xFB, 0, 0⟩
  | .illegalFC => ⟨false, 0xFC, 0, 0⟩
  | .illegalFD => ⟨false, 0xFD, 0, 0⟩
  | .cpD8 n => ⟨false, 0xFE, zext16 n, 0⟩
  | .rst38 => ⟨false, 0xFF, 0, 0⟩
  | .rlcB => ⟨true, 0x00, 0, 0⟩
  | .rlcC => ⟨true, 0x01, 0, 0⟩
  | .rlcD => ⟨true, 0x02, 0, 0⟩
  | .rlcE => ⟨true, 0x03, 0, 0⟩
  | .rlcH => ⟨true, 0x04, 0, 0⟩
  | .rlcL => ⟨true, 0x05, 0, 0⟩
  | .rlcAtHl => ⟨true, 0x06, 0, 0⟩
  | .rlcA => ⟨true, 0x07, 0, 0⟩
  | .rrcB => ⟨true, 0x08, 0, 0⟩
  | .rrcC => ⟨true, 0x09, 0, 0⟩
  | .rrcD => ⟨true, 0x0A, 0, 0⟩
  | .rrcE => ⟨true, 0x0B, 0, 0⟩
  | .rrcH => ⟨true, 0x0C, 0, 0⟩
  | .rrcL => ⟨true, 0x0D, 0, 0⟩
  | .rrcAtHl => ⟨true, 0x0E, 0, 0⟩
  | .rrcA => ⟨true, 0x0F, 0, 0⟩
  | .rlB => ⟨true, 0x10, 0, 0⟩
  | .rlC => ⟨true, 0x11, 0, 0⟩
  | .rlD => ⟨true, 0x12, 0, 0⟩
  | .rlE => ⟨true, 0x13, 0, 0⟩
  | .rlH => ⟨true, 0x14, 0, 0⟩
  | .rlL => ⟨true, 0x15, 0, 0⟩
  | .rlAtHl => ⟨true, 0x16, 0, 0⟩
  | .rlA => ⟨true, 0x17, 0, 0⟩
  | .rrB => ⟨true, 0x18, 0, 0⟩
  | .rrC => ⟨true, 0x19, 0, 0⟩
  | .rrD => ⟨true, 0x1A, 0, 0⟩
  | .rrE => ⟨true, 0x1B, 0, 0⟩
  | .rrH => ⟨true, 0x1C, 0, 0⟩
  | .rrL => ⟨true, 0x1D, 0, 0⟩
  | .rrAtHl => ⟨true, 0x1E, 0, 0⟩
  | .rrA => ⟨true, 0x1F, 0, 0⟩
  | .slaB => ⟨true, 0x20, 0, 0⟩
  | .slaC => ⟨true, 0x21, 0, 0⟩
  | .slaD => ⟨true, 0x22, 0, 0⟩
  | .slaE => ⟨true, 0x23, 0, 0⟩
  | .slaH => ⟨true, 0x24, 0, 0⟩
  | .slaL => ⟨true, 0x25, 0, 0⟩
  | .slaAtHl => ⟨true, 0x26, 0, 0⟩
  | .slaA => ⟨true, 0x27, 0, 0⟩
  | .sraB => ⟨true, 0x28, 0, 0⟩
  | .sraC => ⟨true, 0x29, 0, 0⟩
  | .sraD => ⟨true, 0x2A, 0, 0⟩
  | .sraE => ⟨true, 0x2B, 0, 0⟩
  | .sraH => ⟨true, 0x2C, 0, 0⟩
  | .sraL => ⟨true, 0x2D, 0, 0⟩
  | .sraAtHl => ⟨true, 0x2E, 0, 0⟩
  | .sraA => ⟨true, 0x2F, 0, 0⟩
  | .swapB => ⟨true, 0x30, 0, 0⟩
  | .swapC => ⟨true, 0x31, 0, 0⟩
  | .swapD => ⟨true, 0x32, 0, 0⟩
  | .swapE => ⟨true, 0x33, 0, 0⟩
  | .swapH => ⟨true, 0x34, 0, 0⟩
  | .swapL => ⟨true, 0x35, 0, 0⟩
  | .swapAtHl => ⟨true, 0x36, 0, 0⟩
  | .swapA => ⟨true, 0x37, 0, 0⟩
  | .srlB => ⟨true, 0x38, 0, 0⟩
  | .srlC => ⟨true, 0x39, 0, 0⟩
  | .srlD => ⟨true, 0x3A, 0, 0⟩
  | .srlE => ⟨true, 0x3B, 0, 0⟩
  | .srlH => ⟨true, 0x3C, 0, 0⟩
  | .srlL => ⟨true, 0x3D, 0, 0⟩
  | .srlAtHl => ⟨true, 0x3E, 0, 0⟩
  | .srlA => ⟨true, 0x3F, 0, 0⟩
  | .bit0B => ⟨true, 0x40, 0, 0⟩
  | .bit0C => ⟨true, 0x41, 0, 0⟩
  | .bit0D => ⟨true, 0x42, 0, 0⟩
  | .bit0E => ⟨true, 0x43, 0, 0⟩
  | .bit0H => ⟨true, 0x44, 0, 0⟩
  | .bit0L => ⟨true, 0x45, 0, 0⟩
  | .bit0AtHl => ⟨true, 0x46, 0, 0⟩
  | .bit0A => ⟨true, 0x47, 0, 0⟩
  | .bit1B => ⟨true, 0x48, 0, 0⟩
  | .bit1C => ⟨true, 0x49, 0, 0⟩
  | .bit1D => ⟨true, 0x4A, 0, 0⟩
  | .bit1E => ⟨true, 0x4B, 0, 0⟩
  | .bit1H => ⟨true, 0x4C, 0, 0⟩
  | .bit1L => ⟨true, 0x4D, 0, 0⟩
  | .bit1AtHl => ⟨true, 0x4E, 0, 0⟩
  | .bit1A => ⟨true, 0x4F, 0, 0⟩
  | .bit2B => ⟨true, 0x50, 0, 0⟩
  | .bit2C => ⟨true, 0x51, 0, 0⟩
  | .bit2D => ⟨true, 0x52, 0, 0⟩
  | .bit2E => ⟨true, 0x53, 0, 0⟩
  | .bit2H => ⟨true, 0x54, 0, 0⟩
  | .bit2L => ⟨true, 0x55, 0, 0⟩
  | .bit2AtHl => ⟨true, 0x56, 0, 0⟩
  | .bit2A => ⟨true, 0x57, 0, 0⟩
  | .bit3B => ⟨true, 0x58, 0, 0⟩
  | .bit3C => ⟨true, 0x59, 0, 0⟩
  | .bit3D => ⟨true, 0x5A, 0, 0⟩
  | .bit3E => ⟨true, 0x5B, 0, 0⟩
  | .bit3H => ⟨true, 0x5C, 0, 0⟩
  | .bit3L => ⟨true, 0x5D, 0, 0⟩
  | .bit3AtHl => ⟨true, 0x5E, 0, 0⟩
  | .bit3A => ⟨true, 0x5F, 0, 0⟩
  | .bit4B => ⟨true, 0x60, 0, 0⟩
  | .bit4C => ⟨true, 0x61, 0, 0⟩
  | .bit4D => ⟨true, 0x62, 0, 0⟩
  | .bit4E => ⟨true, 0x63, 0, 0⟩
  | .bit4H => ⟨true, 0x64, 0, 0⟩
  | .bit4L => ⟨true, 0x65, 0, 0⟩
  | .bit4AtHl => ⟨true, 0x66, 0, 0⟩
  | .bit4A => ⟨true, 0x67, 0, 0⟩
  | .bit5B => ⟨true, 0x68, 0, 0⟩
  | .bit5C => ⟨true, 0x69, 0, 0⟩
  | .bit5D => ⟨true, 0x6A, 0, 0⟩
  | .bit5E => ⟨true, 0x6B, 0, 0⟩
  | .bit5H => ⟨true, 0x6C, 0, 0⟩
  | .bit5L => ⟨true, 0x6D, 0, 0⟩
  | .bit5AtHl => ⟨true, 0x6E, 0, 0⟩
  | .bit5A => ⟨true, 0x6F, 0, 0⟩
  | .bit6B => ⟨true, 0x70, 0, 0⟩
  | .bit6C => ⟨true, 0x71, 0, 0⟩
  | .bit6D => ⟨true, 0x72, 0, 0⟩
  | .bit6E => ⟨true, 0x73, 0, 0⟩
  | .bit6H => ⟨true, 0x74, 0, 0⟩
  | .bit6L => ⟨true, 0x75, 0, 0⟩
  | .bit6AtHl => ⟨true, 0x76, 0, 0⟩
  | .bit6A => ⟨true, 0x77, 0, 0⟩
  | .bit7B => ⟨true, 0x78, 0, 0⟩
  | .bit7C => ⟨true, 0x79, 0, 0⟩
  | .bit7D => ⟨true, 0x7A, 0, 0⟩
  | .bit7E => ⟨true, 0x7B, 0, 0⟩
  | .bit7H => ⟨true, 0x7C, 0, 0⟩
  | .bit7L => ⟨true, 0x7D, 0, 0⟩
  | .bit7AtHl => ⟨true, 0x7E, 0, 0⟩
  | .bit7A => ⟨true, 0x7F, 0, 0⟩
  | .res0B => ⟨true, 0x80, 0, 0⟩
  | .res0C => ⟨true, 0x81, 0, 0⟩
  | .res0D => ⟨true, 0x82, 0, 0⟩
  | .res0E => ⟨true, 0x83, 0, 0⟩
  | .res0H => ⟨true, 0x84, 0, 0⟩
  | .res0L => ⟨true, 0x85, 0, 0⟩
  | .res0AtHl => ⟨true, 0x86, 0, 0⟩
  | .res0A => ⟨true, 0x87, 0, 0⟩
  | .res1B => ⟨true, 0x88, 0, 0⟩
  | .res1C => ⟨true, 0x89, 0, 0⟩
  | .res1D => ⟨true, 0x8A, 0, 0⟩
  | .res1E => ⟨true, 0x8B, 0, 0⟩
  | .res1H => ⟨true, 0x8C, 0, 0⟩
  | .res1L => ⟨true, 0x8D, 0, 0⟩
  | .res1AtHl => ⟨true, 0x8E, 0, 0⟩
  | .res1A => ⟨true, 0x8F, 0, 0⟩
  | .res2B => ⟨true, 0x90, 0, 0⟩
  | .res2C => ⟨true, 0x91, 0, 0⟩
  | .res2D => ⟨true, 0x92, 0, 0⟩
  | .res2E => ⟨true, 0x93, 0, 0⟩
  | .res2H => ⟨true, 0x94, 0, 0⟩
  | .res2L => ⟨true, 0x95, 0, 0⟩
  | .res2AtHl => ⟨true, 0x96, 0, 0⟩
  | .res2A => ⟨true, 0x97, 0, 0⟩
  | .res3B => ⟨true, 0x98, 0, 0⟩
  | .res3C => ⟨true, 0x99, 0, 0⟩
  | .res3D => ⟨true, 0x9A, 0, 0⟩
  | .res3E => ⟨true, 0x9B, 0, 0⟩
  | .res3H => ⟨true, 0x9C, 0, 0⟩
  | .res3L => ⟨true, 0x9D, 0, 0⟩
  | .res3AtHl => ⟨true, 0x9E, 0, 0⟩
  | .res3A => ⟨true, 0x9F, 0, 0⟩
  | .res4B => ⟨true, 0xA0, 0, 0⟩
  | .res4C => ⟨true, 0xA1, 0, 0⟩
  | .res4D => ⟨true, 0xA2, 0, 0⟩
  | .res4E => ⟨true, 0xA3, 0, 0⟩
  | .res4H => ⟨true, 0xA4, 0, 0⟩
  | .res4L => ⟨true, 0xA5, 0, 0⟩
  | .res4AtHl => ⟨true, 0xA6, 0, 0⟩
  | .res4A => ⟨true, 0xA7, 0, 0⟩
  | .res5B => ⟨true, 0xA8, 0, 0⟩
  | .res5C => ⟨true, 0xA9, 0, 0⟩
  | .res5D => ⟨true, 0xAA, 0, 0⟩
  | .res5E => ⟨true, 0xAB, 0, 0⟩
  | .res5H => ⟨true, 0xAC, 0, 0⟩
  | .res5L => ⟨true, 0xAD, 0, 0⟩
  | .res5AtHl => ⟨true, 0xAE, 0, 0⟩
  | .res5A => ⟨true, 0xAF, 0, 0⟩
  | .res6B => ⟨true, 0xB0, 0, 0⟩
  | .res6C => ⟨true, 0xB1, 0, 0⟩
  | .res6D => ⟨true, 0xB2, 0, 0⟩
  | .res6E => ⟨true, 0xB3, 0, 0⟩
  | .res6H => ⟨true, 0xB4, 0, 0⟩
  | .res6L => ⟨true, 0xB5, 0, 0⟩
  | .res6AtHl => ⟨true, 0xB6, 0, 0⟩
  | .res6A => ⟨true, 0xB7, 0, 0⟩
  | .res7B => ⟨true, 0xB8, 0, 0⟩
  | .res7C => ⟨true, 0xB9, 0, 0⟩
  | .res7D => ⟨true, 0xBA, 0, 0⟩
  | .res7E => ⟨true, 0xBB, 0, 0⟩
  | .res7H => ⟨true, 0xBC, 0, 0⟩
  | .res7L => ⟨true, 0xBD, 0, 0⟩
  | .res7AtHl => ⟨true, 0xBE, 0, 0⟩
  | .res7A => ⟨true, 0xBF, 0, 0⟩
  | .set0B => ⟨true, 0xC0, 0, 0⟩
  | .set0C => ⟨true, 0xC1, 0, 0⟩
  | .set0D => ⟨true, 0xC2, 0, 0⟩
  | .set0E => ⟨true, 0xC3, 0, 0⟩
  | .set0H => ⟨true, 0xC4, 0, 0⟩
  | .set0L => ⟨true, 0xC5, 0, 0⟩
  | .set0AtHl => ⟨true, 0xC6, 0, 0⟩
  | .set0A => ⟨true, 0xC7, 0, 0⟩
  | .set1B => ⟨true, 0xC8, 0, 0⟩
  | .set1C => ⟨true, 0xC9, 0, 0⟩
  | .set1D => ⟨true, 0xCA, 0, 0⟩
  | .set1E => ⟨true, 0xCB, 0, 0⟩
  | .set1H => ⟨true, 0xCC, 0, 0⟩
  | .set1L => ⟨true, 0xCD, 0, 0⟩
  | .set1AtHl => ⟨true, 0xCE, 0, 0⟩
  | .set1A => ⟨true, 0xCF, 0, 0⟩
  | .set2B => ⟨true, 0xD0, 0, 0⟩
  | .set2C => ⟨true, 0xD1, 0, 0⟩
  | .set2D => ⟨true, 0xD2, 0, 0⟩
  | .set2E => ⟨true, 0xD3, 0, 0⟩
  | .set2H => ⟨true, 0xD4, 0, 0⟩
  | .set2L => ⟨true, 0xD5, 0, 0⟩
  | .set2AtHl => ⟨true, 0xD6, 0, 0⟩
  | .set2A => ⟨true, 0xD7, 0, 0⟩
  | .set3B => ⟨true, 0xD8, 0, 0⟩
  | .set3C => ⟨true, 0xD9, 0, 0⟩
  | .set3D => ⟨true, 0xDA, 0, 0⟩
  | .set3E => ⟨true, 0xDB, 0, 0⟩
  | .set3H => ⟨true, 0xDC, 0, 0⟩
  | .set3L => ⟨true, 0xDD, 0, 0⟩
  | .set3AtHl => ⟨true, 0xDE, 0, 0⟩
  | .set3A => ⟨true, 0xDF, 0, 0⟩
  | .set4B => ⟨true, 0xE0, 0, 0⟩
  | .set4C => ⟨true, 0xE1, 0, 0⟩
  | .set4D => ⟨true, 0xE2, 0, 0⟩
  | .set4E => ⟨true, 0xE3, 0, 0⟩
  | .set4H => ⟨true, 0xE4, 0, 0⟩
  | .set4L => ⟨true, 0xE5, 0, 0⟩
  | .set4AtHl => ⟨true, 0xE6, 0, 0⟩
  | .set4A => ⟨true, 0xE7, 0, 0⟩
  | .set5B => ⟨true, 0xE8, 0, 0⟩
  | .set5C => ⟨true, 0xE9, 0, 0⟩
  | .set5D => ⟨true, 0xEA, 0, 0⟩
  | .set5E => ⟨true, 0xEB, 0, 0⟩
  | .set5H => ⟨true, 0xEC, 0, 0⟩
  | .set5L => ⟨true, 0xED, 0, 0⟩
  | .set5AtHl => ⟨true, 0xEE, 0, 0⟩
  | .set5A => ⟨true, 0xEF, 0, 0⟩
  | .set6B => ⟨true, 0xF0, 0, 0⟩
  | .set6C => ⟨true, 0xF1, 0, 0⟩
  | .set6D => ⟨true, 0xF2, 0, 0⟩
  | .set6E => ⟨true, 0xF3, 0, 0⟩
  | .set6H => ⟨true, 0xF4, 0, 0⟩
  | .set6L => ⟨true, 0xF5, 0, 0⟩
  | .set6AtHl => ⟨true, 0xF6, 0, 0⟩
  | .set6A => ⟨true, 0xF7, 0, 0⟩
  | .set7B => ⟨true, 0xF8, 0, 0⟩
  | .set7C => ⟨true, 0xF9, 0, 0⟩
  | .set7D => ⟨true, 0xFA, 0, 0⟩
  | .set7E => ⟨true, 0xFB, 0, 0⟩
  | .set7H => ⟨true, 0xFC, 0, 0⟩
  | .set7L => ⟨true, 0xFD, 0, 0⟩
  | .set7AtHl => ⟨true, 0xFE, 0, 0⟩
  | .set7A => ⟨true, 0xFF, 0, 0⟩

/-- The descriptor of a struct's tag, no slot absent. -/
def RawInstr.desc : RawInstr → Descriptor
  | ⟨ext, op, _, _⟩ => lookup [] ext op

/-- The descriptor of an instruction (10_state.md R32). -/
def Instr.desc (i : Instr) : Descriptor := i.toRaw.desc

end Sys2Proof
end

