-- ==== Sys2Proof/WellFormed.lean ====
section
/-! DEFINITION. Well-formedness of an Instruction (10_state.md R33): its tag is present and not of class `prefix`, and each
operand fits its kind. -/

namespace Sys2Proof

/-- `v < 2^(8 * bytes(k))` (10_state.md R33). -/
def OperandKind.fits (k : OperandKind) (v : Word) : Bool := v.toNat < 2 ^ (8 * k.bytes)

/-- `WF(x)` for the struct (10_state.md R33), under `EXT_ABSENT = absent`. -/
def RawInstr.wellFormed (absent : List Byte) : RawInstr → Bool
  | ⟨ext, op, v0, v1⟩ =>
    let d := lookup absent ext op
    d.present && d.cls != .prefixSlot && d.k0.fits v0 && d.k1.fits v1

/-- `WF(x)` for the typed instruction: the operands fit by their types, so this refuses `prefixCb` and the absent extended
selectors (10_state.md R33, 30_encoding.md R121, R123). -/
def Instr.wellFormed (absent : List Byte) (i : Instr) : Bool := i.toRaw.wellFormed absent

end Sys2Proof
end

