-- ==== Sys2Proof/Decode.lean ====
section
/-! DEFINITION. The decoder, from a byte source and a position to an Instruction and a byte count or an error, total on any
bytes; the encoder after it; stream iteration; rendering (30_encoding.md sections 3 to 5 and 8). -/

namespace Sys2Proof

/-- How an entry's constructor takes the raw operand (10_state.md R33). -/
inductive Form where
  | op0 (i : Instr)
  | op8 (mk : Byte → Instr)
  | op16 (mk : Word → Instr)

/-- The instruction of a form and a raw operand `v0`. -/
def Form.apply : Form → Word → Instr
  | .op0 i, _ => i
  | .op8 mk, v => mk (loByte v)
  | .op16 mk, v => mk v

/-- Row 0x of the base grid as instructions (30_encoding.md section 7). -/
def baseForm0 : List Form := [
  .op0 .nop, .op16 .ldBcD16, .op0 .ldAtBcA, .op0 .incBc, .op0 .incB, .op0 .decB, .op8 .ldBD8, .op0 .rlcAcc,
  .op16 .ldAtA16Sp, .op0 .addHlBc, .op0 .ldAAtBc, .op0 .decBc, .op0 .incC, .op0 .decC, .op8 .ldCD8, .op0 .rrcAcc]

/-- Row 1x of the base grid as instructions (30_encoding.md section 7). -/
def baseForm1 : List Form := [
  .op0 .stop0, .op16 .ldDeD16, .op0 .ldAtDeA, .op0 .incDe, .op0 .incD, .op0 .decD, .op8 .ldDD8, .op0 .rlAcc,
  .op8 .jrR8, .op0 .addHlDe, .op0 .ldAAtDe, .op0 .decDe, .op0 .incE, .op0 .decE, .op8 .ldED8, .op0 .rrAcc]

/-- Row 2x of the base grid as instructions (30_encoding.md section 7). -/
def baseForm2 : List Form := [
  .op8 .jrNzR8, .op16 .ldHlD16, .op0 .ldAtHlIncA, .op0 .incHl, .op0 .incH, .op0 .decH, .op8 .ldHD8, .op0 .daa,
  .op8 .jrZR8, .op0 .addHlHl, .op0 .ldAAtHlInc, .op0 .decHl, .op0 .incL, .op0 .decL, .op8 .ldLD8, .op0 .cplAcc]

/-- Row 3x of the base grid as instructions (30_encoding.md section 7). -/
def baseForm3 : List Form := [
  .op8 .jrNcR8, .op16 .ldSpD16, .op0 .ldAtHlDecA, .op0 .incSp, .op0 .incAtHl, .op0 .decAtHl, .op8 .ldAtHlD8, .op0 .scf,
  .op8 .jrCR8, .op0 .addHlSp, .op0 .ldAAtHlDec, .op0 .decSp, .op0 .incA, .op0 .decA, .op8 .ldAD8, .op0 .ccf]

/-- Row 4x of the base grid as instructions (30_encoding.md section 7). -/
def baseForm4 : List Form := [
  .op0 .ldBB, .op0 .ldBC, .op0 .ldBD, .op0 .ldBE, .op0 .ldBH, .op0 .ldBL, .op0 .ldBAtHl, .op0 .ldBA,
  .op0 .ldCB, .op0 .ldCC, .op0 .ldCD, .op0 .ldCE, .op0 .ldCH, .op0 .ldCL, .op0 .ldCAtHl, .op0 .ldCA]

/-- Row 5x of the base grid as instructions (30_encoding.md section 7). -/
def baseForm5 : List Form := [
  .op0 .ldDB, .op0 .ldDC, .op0 .ldDD, .op0 .ldDE, .op0 .ldDH, .op0 .ldDL, .op0 .ldDAtHl, .op0 .ldDA,
  .op0 .ldEB, .op0 .ldEC, .op0 .ldED, .op0 .ldEE, .op0 .ldEH, .op0 .ldEL, .op0 .ldEAtHl, .op0 .ldEA]

/-- Row 6x of the base grid as instructions (30_encoding.md section 7). -/
def baseForm6 : List Form := [
  .op0 .ldHB, .op0 .ldHC, .op0 .ldHD, .op0 .ldHE, .op0 .ldHH, .op0 .ldHL, .op0 .ldHAtHl, .op0 .ldHA,
  .op0 .ldLB, .op0 .ldLC, .op0 .ldLD, .op0 .ldLE, .op0 .ldLH, .op0 .ldLL, .op0 .ldLAtHl, .op0 .ldLA]

/-- Row 7x of the base grid as instructions (30_encoding.md section 7). -/
def baseForm7 : List Form := [
  .op0 .ldAtHlB, .op0 .ldAtHlC, .op0 .ldAtHlD, .op0 .ldAtHlE, .op0 .ldAtHlH, .op0 .ldAtHlL, .op0 .halt, .op0 .ldAtHlA,
  .op0 .ldAB, .op0 .ldAC, .op0 .ldAD, .op0 .ldAE, .op0 .ldAH, .op0 .ldAL, .op0 .ldAAtHl, .op0 .ldAA]

/-- Row 8x of the base grid as instructions (30_encoding.md section 7). -/
def baseForm8 : List Form := [
  .op0 .addAB, .op0 .addAC, .op0 .addAD, .op0 .addAE, .op0 .addAH, .op0 .addAL, .op0 .addAAtHl, .op0 .addAA,
  .op0 .adcAB, .op0 .adcAC, .op0 .adcAD, .op0 .adcAE, .op0 .adcAH, .op0 .adcAL, .op0 .adcAAtHl, .op0 .adcAA]

/-- Row 9x of the base grid as instructions (30_encoding.md section 7). -/
def baseForm9 : List Form := [
  .op0 .subB, .op0 .subC, .op0 .subD, .op0 .subE, .op0 .subH, .op0 .subL, .op0 .subAtHl, .op0 .subA,
  .op0 .sbcAB, .op0 .sbcAC, .op0 .sbcAD, .op0 .sbcAE, .op0 .sbcAH, .op0 .sbcAL, .op0 .sbcAAtHl, .op0 .sbcAA]

/-- Row Ax of the base grid as instructions (30_encoding.md section 7). -/
def baseFormA : List Form := [
  .op0 .andB, .op0 .andC, .op0 .andD, .op0 .andE, .op0 .andH, .op0 .andL, .op0 .andAtHl, .op0 .andA,
  .op0 .xorB, .op0 .xorC, .op0 .xorD, .op0 .xorE, .op0 .xorH, .op0 .xorL, .op0 .xorAtHl, .op0 .xorA]

/-- Row Bx of the base grid as instructions (30_encoding.md section 7). -/
def baseFormB : List Form := [
  .op0 .orB, .op0 .orC, .op0 .orD, .op0 .orE, .op0 .orH, .op0 .orL, .op0 .orAtHl, .op0 .orA,
  .op0 .cpB, .op0 .cpC, .op0 .cpD, .op0 .cpE, .op0 .cpH, .op0 .cpL, .op0 .cpAtHl, .op0 .cpA]

/-- Row Cx of the base grid as instructions (30_encoding.md section 7). -/
def baseFormC : List Form := [
  .op0 .retNz, .op0 .popBc, .op16 .jpNzA16, .op16 .jpA16, .op16 .callNzA16, .op0 .pushBc, .op8 .addAD8, .op0 .rst00,
  .op0 .retZ, .op0 .ret, .op16 .jpZA16, .op0 .prefixCb, .op16 .callZA16, .op16 .callA16, .op8 .adcAD8, .op0 .rst08]

/-- Row Dx of the base grid as instructions (30_encoding.md section 7). -/
def baseFormD : List Form := [
  .op0 .retNc, .op0 .popDe, .op16 .jpNcA16, .op0 .illegalD3, .op16 .callNcA16, .op0 .pushDe, .op8 .subD8, .op0 .rst10,
  .op0 .retC, .op0 .reti, .op16 .jpCA16, .op0 .illegalDB, .op16 .callCA16, .op0 .illegalDD, .op8 .sbcAD8, .op0 .rst18]

/-- Row Ex of the base grid as instructions (30_encoding.md section 7). -/
def baseFormE : List Form := [
  .op8 .ldhAtA8A, .op0 .popHl, .op0 .ldAtCA, .op0 .illegalE3, .op0 .illegalE4, .op0 .pushHl, .op8 .andD8, .op0 .rst20,
  .op8 .addSpR8, .op0 .jpAtHl, .op16 .ldAtA16A, .op0 .illegalEB, .op0 .illegalEC, .op0 .illegalED, .op8 .xorD8, .op0 .rst28]

/-- Row Fx of the base grid as instructions (30_encoding.md section 7). -/
def baseFormF : List Form := [
  .op8 .ldhAAtA8, .op0 .popAf, .op0 .ldAAtC, .op0 .di, .op0 .illegalF4, .op0 .pushAf, .op8 .orD8, .op0 .rst30,
  .op8 .ldHlSpR8, .op0 .ldSpHl, .op16 .ldAAtA16, .op0 .ei, .op0 .illegalFC, .op0 .illegalFD, .op8 .cpD8, .op0 .rst38]

/-- Row 0x of the extended grid as instructions (30_encoding.md section 7). -/
def extForm0 : List Form := [
  .op0 .rlcB, .op0 .rlcC, .op0 .rlcD, .op0 .rlcE, .op0 .rlcH, .op0 .rlcL, .op0 .rlcAtHl, .op0 .rlcA,
  .op0 .rrcB, .op0 .rrcC, .op0 .rrcD, .op0 .rrcE, .op0 .rrcH, .op0 .rrcL, .op0 .rrcAtHl, .op0 .rrcA]

/-- Row 1x of the extended grid as instructions (30_encoding.md section 7). -/
def extForm1 : List Form := [
  .op0 .rlB, .op0 .rlC, .op0 .rlD, .op0 .rlE, .op0 .rlH, .op0 .rlL, .op0 .rlAtHl, .op0 .rlA,
  .op0 .rrB, .op0 .rrC, .op0 .rrD, .op0 .rrE, .op0 .rrH, .op0 .rrL, .op0 .rrAtHl, .op0 .rrA]

/-- Row 2x of the extended grid as instructions (30_encoding.md section 7). -/
def extForm2 : List Form := [
  .op0 .slaB, .op0 .slaC, .op0 .slaD, .op0 .slaE, .op0 .slaH, .op0 .slaL, .op0 .slaAtHl, .op0 .slaA,
  .op0 .sraB, .op0 .sraC, .op0 .sraD, .op0 .sraE, .op0 .sraH, .op0 .sraL, .op0 .sraAtHl, .op0 .sraA]

/-- Row 3x of the extended grid as instructions (30_encoding.md section 7). -/
def extForm3 : List Form := [
  .op0 .swapB, .op0 .swapC, .op0 .swapD, .op0 .swapE, .op0 .swapH, .op0 .swapL, .op0 .swapAtHl, .op0 .swapA,
  .op0 .srlB, .op0 .srlC, .op0 .srlD, .op0 .srlE, .op0 .srlH, .op0 .srlL, .op0 .srlAtHl, .op0 .srlA]

/-- Row 4x of the extended grid as instructions (30_encoding.md section 7). -/
def extForm4 : List Form := [
  .op0 .bit0B, .op0 .bit0C, .op0 .bit0D, .op0 .bit0E, .op0 .bit0H, .op0 .bit0L, .op0 .bit0AtHl, .op0 .bit0A,
  .op0 .bit1B, .op0 .bit1C, .op0 .bit1D, .op0 .bit1E, .op0 .bit1H, .op0 .bit1L, .op0 .bit1AtHl, .op0 .bit1A]

/-- Row 5x of the extended grid as instructions (30_encoding.md section 7). -/
def extForm5 : List Form := [
  .op0 .bit2B, .op0 .bit2C, .op0 .bit2D, .op0 .bit2E, .op0 .bit2H, .op0 .bit2L, .op0 .bit2AtHl, .op0 .bit2A,
  .op0 .bit3B, .op0 .bit3C, .op0 .bit3D, .op0 .bit3E, .op0 .bit3H, .op0 .bit3L, .op0 .bit3AtHl, .op0 .bit3A]

/-- Row 6x of the extended grid as instructions (30_encoding.md section 7). -/
def extForm6 : List Form := [
  .op0 .bit4B, .op0 .bit4C, .op0 .bit4D, .op0 .bit4E, .op0 .bit4H, .op0 .bit4L, .op0 .bit4AtHl, .op0 .bit4A,
  .op0 .bit5B, .op0 .bit5C, .op0 .bit5D, .op0 .bit5E, .op0 .bit5H, .op0 .bit5L, .op0 .bit5AtHl, .op0 .bit5A]

/-- Row 7x of the extended grid as instructions (30_encoding.md section 7). -/
def extForm7 : List Form := [
  .op0 .bit6B, .op0 .bit6C, .op0 .bit6D, .op0 .bit6E, .op0 .bit6H, .op0 .bit6L, .op0 .bit6AtHl, .op0 .bit6A,
  .op0 .bit7B, .op0 .bit7C, .op0 .bit7D, .op0 .bit7E, .op0 .bit7H, .op0 .bit7L, .op0 .bit7AtHl, .op0 .bit7A]

/-- Row 8x of the extended grid as instructions (30_encoding.md section 7). -/
def extForm8 : List Form := [
  .op0 .res0B, .op0 .res0C, .op0 .res0D, .op0 .res0E, .op0 .res0H, .op0 .res0L, .op0 .res0AtHl, .op0 .res0A,
  .op0 .res1B, .op0 .res1C, .op0 .res1D, .op0 .res1E, .op0 .res1H, .op0 .res1L, .op0 .res1AtHl, .op0 .res1A]

/-- Row 9x of the extended grid as instructions (30_encoding.md section 7). -/
def extForm9 : List Form := [
  .op0 .res2B, .op0 .res2C, .op0 .res2D, .op0 .res2E, .op0 .res2H, .op0 .res2L, .op0 .res2AtHl, .op0 .res2A,
  .op0 .res3B, .op0 .res3C, .op0 .res3D, .op0 .res3E, .op0 .res3H, .op0 .res3L, .op0 .res3AtHl, .op0 .res3A]

/-- Row Ax of the extended grid as instructions (30_encoding.md section 7). -/
def extFormA : List Form := [
  .op0 .res4B, .op0 .res4C, .op0 .res4D, .op0 .res4E, .op0 .res4H, .op0 .res4L, .op0 .res4AtHl, .op0 .res4A,
  .op0 .res5B, .op0 .res5C, .op0 .res5D, .op0 .res5E, .op0 .res5H, .op0 .res5L, .op0 .res5AtHl, .op0 .res5A]

/-- Row Bx of the extended grid as instructions (30_encoding.md section 7). -/
def extFormB : List Form := [
  .op0 .res6B, .op0 .res6C, .op0 .res6D, .op0 .res6E, .op0 .res6H, .op0 .res6L, .op0 .res6AtHl, .op0 .res6A,
  .op0 .res7B, .op0 .res7C, .op0 .res7D, .op0 .res7E, .op0 .res7H, .op0 .res7L, .op0 .res7AtHl, .op0 .res7A]

/-- Row Cx of the extended grid as instructions (30_encoding.md section 7). -/
def extFormC : List Form := [
  .op0 .set0B, .op0 .set0C, .op0 .set0D, .op0 .set0E, .op0 .set0H, .op0 .set0L, .op0 .set0AtHl, .op0 .set0A,
  .op0 .set1B, .op0 .set1C, .op0 .set1D, .op0 .set1E, .op0 .set1H, .op0 .set1L, .op0 .set1AtHl, .op0 .set1A]

/-- Row Dx of the extended grid as instructions (30_encoding.md section 7). -/
def extFormD : List Form := [
  .op0 .set2B, .op0 .set2C, .op0 .set2D, .op0 .set2E, .op0 .set2H, .op0 .set2L, .op0 .set2AtHl, .op0 .set2A,
  .op0 .set3B, .op0 .set3C, .op0 .set3D, .op0 .set3E, .op0 .set3H, .op0 .set3L, .op0 .set3AtHl, .op0 .set3A]

/-- Row Ex of the extended grid as instructions (30_encoding.md section 7). -/
def extFormE : List Form := [
  .op0 .set4B, .op0 .set4C, .op0 .set4D, .op0 .set4E, .op0 .set4H, .op0 .set4L, .op0 .set4AtHl, .op0 .set4A,
  .op0 .set5B, .op0 .set5C, .op0 .set5D, .op0 .set5E, .op0 .set5H, .op0 .set5L, .op0 .set5AtHl, .op0 .set5A]

/-- Row Fx of the extended grid as instructions (30_encoding.md section 7). -/
def extFormF : List Form := [
  .op0 .set6B, .op0 .set6C, .op0 .set6D, .op0 .set6E, .op0 .set6H, .op0 .set6L, .op0 .set6AtHl, .op0 .set6A,
  .op0 .set7B, .op0 .set7C, .op0 .set7D, .op0 .set7E, .op0 .set7H, .op0 .set7L, .op0 .set7AtHl, .op0 .set7A]

/-- The base grid by row. -/
def baseForm : Nat → List Form
  | 0 => baseForm0
  | 1 => baseForm1
  | 2 => baseForm2
  | 3 => baseForm3
  | 4 => baseForm4
  | 5 => baseForm5
  | 6 => baseForm6
  | 7 => baseForm7
  | 8 => baseForm8
  | 9 => baseForm9
  | 10 => baseFormA
  | 11 => baseFormB
  | 12 => baseFormC
  | 13 => baseFormD
  | 14 => baseFormE
  | 15 => baseFormF
  | _ => []

/-- The extended grid by row. -/
def extForm : Nat → List Form
  | 0 => extForm0
  | 1 => extForm1
  | 2 => extForm2
  | 3 => extForm3
  | 4 => extForm4
  | 5 => extForm5
  | 6 => extForm6
  | 7 => extForm7
  | 8 => extForm8
  | 9 => extForm9
  | 10 => extFormA
  | 11 => extFormB
  | 12 => extFormC
  | 13 => extFormD
  | 14 => extFormE
  | 15 => extFormF
  | _ => []

/-- The instruction of a struct's tag and operand. -/
def RawInstr.toInstr : RawInstr → Instr
  | ⟨ext, op, v0, _⟩ =>
    (((if ext then extForm else baseForm) (op.toNat / 16)).getD (op.toNat % 16) (.op0 .prefixCb)).apply v0

/-- A byte source: a byte or end of stream at each position (30_encoding.md R100). -/
abbrev Source := Nat → Option Byte

/-- The stream source over a finite byte sequence (30_encoding.md R100). -/
def streamSource (bs : List Byte) : Source := fun i => bs[i]?

/-- One encoded operand of kind `k` at position `next`: its raw value, zero-extended, and the position after it; `none` is end
of stream. A 16-bit operand has its low byte first (30_encoding.md R101 to R103). -/
def readOperand (src : Source) (k : OperandKind) (next : Nat) : Option (Word × Nat) :=
  match k with
  | .none => some (0, next)
  | .u8 | .s8 =>
    match src next with
    | some t => some (zext16 t, next + 1)
    | none => none
  | .u16 =>
    match src next, src (next + 1) with
    | some t0, some t1 => some (joinBytes t1 t0, next + 2)
    | _, _ => none

/-- The operands of a resolved descriptor, first before second (30_encoding.md R101); `sel` is the selector bytes. -/
def readOperands (src : Source) (d : Descriptor) (ext : Bool) (op : Byte) (sel : List Byte) (pos next : Nat) :
    Except Err (RawInstr × Nat) :=
  match readOperand src d.k0 next with
  | none => .error (.truncatedOperand pos sel)
  | some (v0, n1) =>
    match readOperand src d.k1 n1 with
    | none => .error (.truncatedOperand pos sel)
    | some (v1, n2) => .ok (⟨ext, op, v0, v1⟩, n2 - pos)

/-- `decode(source, position)` on the struct: the algorithm of 30_encoding.md R101, with the three outcomes of R105 to R107
in the order of R108. -/
def decodeRaw (absent : List Byte) (src : Source) (pos : Nat) : Except Err (RawInstr × Nat) :=
  match src pos with
  | none => .error (.streamEnded pos)
  | some b0 =>
    if b0 = Config.extPrefix then
      match src (pos + 1) with
      | none => .error (.streamEnded pos)
      | some b1 =>
        let d := lookup absent true b1
        if d.present then readOperands src d true b1 [b0, b1] pos (pos + 2)
        else .error (.unrecognizedOpcode [b0, b1] pos)
    else
      let d := lookup absent false b0
      if d.present then readOperands src d false b0 [b0] pos (pos + 1)
      else .error (.unrecognizedOpcode [b0] pos)

/-- `decode(source, position) -> (Instruction, bytes_consumed) | Error` (30_encoding.md R101) with the typed instruction. -/
def decode (absent : List Byte) (src : Source) (pos : Nat) : Except Err (Instr × Nat) :=
  match decodeRaw absent src pos with
  | .ok (x, n) => .ok (x.toInstr, n)
  | .error e => .error e

/-- The bytes of one encoded operand, low byte first (30_encoding.md R111). -/
def operandBytes (k : OperandKind) (v : Word) : List Byte :=
  match k with
  | .none => []
  | .u8 | .s8 => [loByte v]
  | .u16 => [loByte v, hiByte v]

/-- The bytes of a well-formed struct (30_encoding.md R111). -/
def RawInstr.bytes : RawInstr → List Byte
  | ⟨ext, op, v0, v1⟩ =>
    let d := lookup [] ext op
    (if ext then [Config.extPrefix] else []) ++ [op] ++ operandBytes d.k0 v0 ++ operandBytes d.k1 v1

/-- `encode(instruction) -> bytes` on the struct; a struct that is not well-formed is refused (30_encoding.md R111, R112). -/
def encodeRaw (absent : List Byte) (x : RawInstr) : Option (List Byte) :=
  if x.wellFormed absent then some x.bytes else none

/-- The bytes of a well-formed instruction (30_encoding.md R111). -/
def encode (i : Instr) : List Byte := i.toRaw.bytes

/-- The encoder on a typed instruction, refusing one that is not well-formed (30_encoding.md R112). -/
def encodeChecked (absent : List Byte) (i : Instr) : Option (List Byte) :=
  if i.wellFormed absent then some (encode i) else none

/-- Stream iteration with fuel: the instructions and the position at which `StreamEnded` came (30_encoding.md R109). Every
success consumes at least one byte, so fuel above the number of bytes left never runs out. -/
def decodeFrom (absent : List Byte) (src : Source) : Nat → Nat → Except Err (List Instr × Nat)
  | 0, pos => .error (.streamEnded pos)
  | fuel + 1, pos =>
    match decode absent src pos with
    | .error (.streamEnded _) => .ok ([], pos)
    | .error e => .error e
    | .ok (i, n) =>
      match decodeFrom absent src fuel (pos + n) with
      | .ok (is, last) => .ok (i :: is, last)
      | .error e => .error e

/-- Decoding a whole stream from position 0 (30_encoding.md R109). -/
def decodeStream (absent : List Byte) (bs : List Byte) : Except Err (List Instr × Nat) :=
  decodeFrom absent (streamSource bs) (bs.length + 1) 0

/-! ## Rendering (30_encoding.md R125 to R128) -/

/-- One upper-case hexadecimal digit. -/
def hexDigit (n : Nat) : String :=
  ["0", "1", "2", "3", "4", "5", "6", "7", "8", "9", "A", "B", "C", "D", "E", "F"].getD n "?"

/-- Two upper-case hexadecimal digits (30_encoding.md R127). -/
def hex2 (v : Nat) : String := hexDigit (v / 16) ++ hexDigit (v % 16)

/-- Four upper-case hexadecimal digits (30_encoding.md R127). -/
def hex4 (v : Nat) : String := hex2 (v / 256) ++ hex2 (v % 256)

/-- A signed operand with its sign when negative (30_encoding.md R128). -/
def signedHex (v : Byte) : String :=
  if sext8 v < 0 then "-" ++ hex2 (sext8 v).natAbs else hex2 (sext8 v).natAbs

/-- A textual operand with its placeholder word replaced by the operand value (30_encoding.md R126 to R128). -/
def renderWord (w : String) (v : Word) : String :=
  if w = "d8" then hex2 v.toNat
  else if w = "(a8)" then "(" ++ hex2 v.toNat ++ ")"
  else if w = "r8" then signedHex (loByte v)
  else if w = "SP+r8" then "SP+" ++ signedHex (loByte v)
  else if w = "d16" then hex4 v.toNat
  else if w = "a16" then hex4 v.toNat
  else if w = "(a16)" then "(" ++ hex4 v.toNat ++ ")"
  else w

/-- The form of a catalog entry: its mnemonic and textual operands, separated by single spaces (30_encoding.md R125). -/
def Descriptor.form (d : Descriptor) : String := d.text.foldl (fun acc w => acc ++ " " ++ w) d.mnemonic

/-- The rendering of a decoded Instruction (30_encoding.md R127, R128). -/
def RawInstr.render : RawInstr → String
  | ⟨ext, op, v0, _⟩ =>
    let d := lookup [] ext op
    d.text.foldl (fun acc w => acc ++ " " ++ renderWord w v0) d.mnemonic

/-- The rendering of a typed instruction. -/
def Instr.render (i : Instr) : String := i.toRaw.render

/-! ## Table words -/

/-- The three bytes, at rising addresses, of the instruction whose table bits are `w`, the bits from `nbits` up being 0. The
table writes an extended entry's selector as one number with byte 0 most significant (30_encoding.md, row layout after
R124), so a 16-bit word whose bits 15..8 are the prefix is the prefix and then the selector; in every other word bit 0 is
the least significant bit of byte 0 and later bytes count on. DEDUCED (log 10). -/
def tableBytes (nbits w : Nat) : List Byte :=
  let v := w % 2 ^ nbits
  if nbits = 16 ∧ v / 256 = Config.extPrefix.toNat then [Config.extPrefix, BitVec.ofNat 8 v, 0]
  else [BitVec.ofNat 8 v, BitVec.ofNat 8 (v / 256), BitVec.ofNat 8 (v / 65536)]

/-- The instruction the decoder reads from a table word. -/
def decodeTableWord (nbits w : Nat) : Option Instr :=
  match decode Config.extAbsent (streamSource (tableBytes nbits w)) 0 with
  | .ok (i, _) => some i
  | .error _ => none

end Sys2Proof
end

