-- ==== Sys2Proof/Machine/State.lean ====
section
/-! DEFINITION. The state of the engine as plain data, memory as a canonical list of cells, the reasons a step can stop, and
the state after reset (10_state.md, 70_reset_and_hazards.md). -/

namespace Sys2Proof.Machine

/-- The engine's state register `ST` (10_state.md R35). -/
inductive EngineState where
  | running | halted | failed
deriving DecidableEq, Repr

/-- Memory cells by address. Canonical form: addresses strictly rising, no cell equal to `Config.unlisted`. -/
abbrev Memory := List Host.Cell

/-- The canonical form of a memory list. -/
abbrev Memory.wf (m : Memory) : Prop :=
  m.Pairwise (fun x y => x.1 < y.1) ∧ ∀ cell ∈ m, cell.2 ≠ Config.unlisted

/-- Cells of an image from address `addr` on, below `n`, those equal to `Config.unlisted` left out. -/
def Memory.ofImage (n : Nat) : Nat → List Byte → Memory
  | _, [] => []
  | addr, v :: rest =>
    if addr < n ∧ v ≠ Config.unlisted then (addr, v) :: Memory.ofImage n (addr + 1) rest
    else Memory.ofImage n (addr + 1) rest

/-- Everything the engine reads or writes between instructions (10_state.md R20 to R41), and the two construction
parameters of this engine instance (00_scope.md R6), which no instruction writes. -/
structure State where
  a : Byte             -- A, the accumulator (R20)
  b : Byte             -- B (R20)
  c : Byte             -- C (R20)
  d : Byte             -- D (R20)
  e : Byte             -- E (R20)
  h : Byte             -- H (R20)
  l : Byte             -- L (R20)
  f : Byte             -- F: Z N H C in bits 7 to 4, bits 3 to 0 zero (R26 to R28)
  sp : Word            -- SP (R24)
  pc : Word            -- pc (R25)
  st : EngineState     -- ST (R35)
  err : Option Err     -- ERR (R36)
  cyc : BitVec 64      -- CYC (R37)
  mem : Memory         -- Mem[0 .. N-1] (R34)
  memSize : Nat        -- N = MEM_SIZE (00_scope.md R6)
  extAbsent : List Byte  -- EXT_ABSENT (00_scope.md R6)
deriving DecidableEq, Repr

/-- The reasons for which the machine stops without a next state: none. The spec makes `step()` total (60_exceptions.md
R385); every error of R370 that the engine raises is a next state in which `ST` is `Failed` and `ERR` says why (R366;
log 5). Safe: a claim about a failed run is a claim about that state. -/
inductive Fault where
deriving DecidableEq, Repr

/-- The reasons for which an instruction has no meaning. -/
inductive Refusal where
  /-- Raised by `exec` alone, for an instruction of the table that has no meaning yet. Safe: nothing follows from it. -/
  | notModelled (mnemonic : String)
  /-- Raised by the meaning of `PREFIX CB`: the descriptor of base slot 0xCB "has no execute rule, because the decoder
  never produces it" (45_system.md R345; log 6). Safe: no step reaches it. -/
  | prefixSlot
deriving DecidableEq, Repr

/-- `reset(MEM_SIZE, MEM_INIT)` with `EXT_ABSENT` (70_reset_and_hazards.md R400, 10_state.md R41). The image is the bytes of
`MEM_INIT` from address 0; the spec gives it length exactly `n` (R402), and for another length: log 11. -/
def State.resetWith (n : Nat) (absent : List Byte) (image : List Byte) : State where
  a := 0
  b := 0
  c := 0
  d := 0
  e := 0
  h := 0
  l := 0
  f := 0
  sp := 0
  pc := 0
  st := .running
  err := none
  cyc := 0
  mem := Memory.ofImage n 0 image
  memSize := n
  extAbsent := absent

/-- The machine right after reset with the parameters of Config.lean and an image of which nothing is listed (log 1, 2). -/
def State.reset : State := State.resetWith Config.memSize Config.extAbsent []

end Sys2Proof.Machine
end

