-- ==== Sys2Proof/Machine/Operands.lean ====
section
/-! DEFINITION. Register accessors: 8-bit registers by number, pairs as views, the flag register (10_state.md R20 to R28). -/

namespace Sys2Proof.Machine

/-- `x[i]`, the read of an 8-bit register (10_state.md R21). -/
def State.reg (s : State) : Reg8 → Byte
  | .b => s.b
  | .c => s.c
  | .d => s.d
  | .e => s.e
  | .h => s.h
  | .l => s.l
  | .a => s.a

/-- `x[i] <- v` (10_state.md R21). -/
def State.setReg (s : State) (r : Reg8) (v : Byte) : State :=
  match r with
  | .b => { s with b := v }
  | .c => { s with c := v }
  | .d => { s with d := v }
  | .e => { s with e := v }
  | .h => { s with h := v }
  | .l => { s with l := v }
  | .a => { s with a := v }

/-- `F <- v`: the one operation that writes F; bits 3 to 0 are always zero (10_state.md R28). -/
def State.setF (s : State) (v : Byte) : State := { s with f := v &&& 0xF0 }

/-- `BC` (10_state.md R22). -/
def State.bc (s : State) : Word := joinBytes s.b s.c

/-- `DE` (10_state.md R22). -/
def State.de (s : State) : Word := joinBytes s.d s.e

/-- `HL` (10_state.md R22). -/
def State.hl (s : State) : Word := joinBytes s.h s.l

/-- `AF` (10_state.md R22). -/
def State.af (s : State) : Word := joinBytes s.a s.f

/-- `BC <- v` (10_state.md R22). -/
def State.setBc (s : State) (v : Word) : State := { s with b := hiByte v, c := loByte v }

/-- `DE <- v` (10_state.md R22). -/
def State.setDe (s : State) (v : Word) : State := { s with d := hiByte v, e := loByte v }

/-- `HL <- v` (10_state.md R22). -/
def State.setHl (s : State) (v : Word) : State := { s with h := hiByte v, l := loByte v }

/-- `AF <- v`, which writes `F <- v[7:0] & 0xF0` (10_state.md R22, R28). -/
def State.setAf (s : State) (v : Word) : State := { s with a := hiByte v }.setF (loByte v)

/-- A 16-bit operand from table `rp` (10_state.md R23). -/
def State.pair (s : State) : Pair → Word
  | .bc => s.bc
  | .de => s.de
  | .hl => s.hl
  | .sp => s.sp

/-- The write of a 16-bit operand from table `rp` (10_state.md R23). -/
def State.setPair (s : State) (p : Pair) (v : Word) : State :=
  match p with
  | .bc => s.setBc v
  | .de => s.setDe v
  | .hl => s.setHl v
  | .sp => { s with sp := v }

/-- A 16-bit operand from table `rp2` (10_state.md R23). -/
def State.stackPair (s : State) : StackPair → Word
  | .bc => s.bc
  | .de => s.de
  | .hl => s.hl
  | .af => s.af

/-- The write of a 16-bit operand from table `rp2` (10_state.md R23). -/
def State.setStackPair (s : State) (p : StackPair) (v : Word) : State :=
  match p with
  | .bc => s.setBc v
  | .de => s.setDe v
  | .hl => s.setHl v
  | .af => s.setAf v

end Sys2Proof.Machine
end

