-- ==== Sys2Proof/Machine/Flags.lean ====
section
/-! DEFINITION. The flags by name, and the arithmetic, rotate and decimal-adjust helpers with the flags they compute
(10_state.md R26 to R29, 40_arith_logic.md R150, R179, R182 to R187, 42_bitops_ext.md R271 to R285). -/

namespace Sys2Proof.Machine

/-- `Zf = F[7]` (10_state.md R27). -/
def State.zf (s : State) : Bool := s.f.getLsbD 7

/-- `Nf = F[6]` (10_state.md R27). -/
def State.nf (s : State) : Bool := s.f.getLsbD 6

/-- `Hf = F[5]` (10_state.md R27). -/
def State.hf (s : State) : Bool := s.f.getLsbD 5

/-- `Cf = F[4]` (10_state.md R27). -/
def State.cf (s : State) : Bool := s.f.getLsbD 4

/-- `(Zf << 7) | (Nf << 6) | (Hf << 5) | (Cf << 4)` (10_state.md R27). -/
def packFlags (z n h c : Bool) : Byte :=
  (boolByte z <<< 7) ||| (boolByte n <<< 6) ||| (boolByte h <<< 5) ||| (boolByte c <<< 4)

/-- The four flags written together (10_state.md R27, R28). -/
def State.setFlags (s : State) (z n h c : Bool) : State := s.setF (packFlags z n h c)

/-- `cond(cc)`, a test of one flag (44_control.md R311). -/
def State.cond (s : State) : Cond → Bool
  | .nz => !s.zf
  | .z => s.zf
  | .nc => !s.cf
  | .c => s.cf

/-- An 8-bit result with its half-carry and carry (40_arith_logic.md R150). -/
structure Sum8 where
  result : Byte
  half : Bool
  carry : Bool
deriving DecidableEq, Repr

/-- `add8(a, b, c)` (40_arith_logic.md R150). -/
def add8 (a b : Byte) (c : Bool) : Sum8 :=
  { result := BitVec.ofNat 8 (a.toNat + b.toNat + c.toNat)
    half := a.toNat % 16 + b.toNat % 16 + c.toNat > 0x0F
    carry := a.toNat + b.toNat + c.toNat > 0xFF }

/-- `sub8(a, b, c)` (40_arith_logic.md R150). -/
def sub8 (a b : Byte) (c : Bool) : Sum8 :=
  { result := BitVec.ofInt 8 ((a.toNat : Int) - b.toNat - c.toNat)
    half := a.toNat % 16 < b.toNat % 16 + c.toNat
    carry := a.toNat < b.toNat + c.toNat }

/-- The half-carry of a 16-bit addition: the carry out of bit 11 (40_arith_logic.md R179). -/
def half16 (x y : Word) : Bool := x.toNat % 0x1000 + y.toNat % 0x1000 > 0x0FFF

/-- The carry of a 16-bit addition: the carry out of bit 15 (40_arith_logic.md R179). -/
def carry16 (x y : Word) : Bool := x.toNat + y.toNat > 0xFFFF

/-- The half-carry of SP plus a signed operand, from the unsigned addition of the low bytes (40_arith_logic.md R182). -/
def offsetHalf (w : Word) (v : Byte) : Bool := w.toNat % 16 + v.toNat % 16 > 0x0F

/-- The carry of SP plus a signed operand, from the unsigned addition of the low bytes (40_arith_logic.md R182). -/
def offsetCarry (w : Word) (v : Byte) : Bool := w.toNat % 256 + v.toNat > 0xFF

/-- `r` of an extended rotate, shift or swap; `c` is the carry before (42_bitops_ext.md section 5). -/
def rotResult (op : Rot) (v : Byte) (c : Bool) : Byte :=
  match op with
  | .rlc => (v <<< 1) ||| boolByte (v.getLsbD 7)
  | .rrc => (v >>> 1) ||| (boolByte (v.getLsbD 0) <<< 7)
  | .rl => (v <<< 1) ||| boolByte c
  | .rr => (v >>> 1) ||| (boolByte c <<< 7)
  | .sla => v <<< 1
  | .sra => (v >>> 1) ||| (v &&& 0x80)
  | .swap => (v <<< 4) ||| (v >>> 4)
  | .srl => v >>> 1

/-- The new carry of an extended rotate, shift or swap (42_bitops_ext.md section 5). -/
def rotCarry (op : Rot) (v : Byte) : Bool :=
  match op with
  | .rlc => v.getLsbD 7
  | .rrc => v.getLsbD 0
  | .rl => v.getLsbD 7
  | .rr => v.getLsbD 0
  | .sla => v.getLsbD 7
  | .sra => v.getLsbD 0
  | .swap => false
  | .srl => v.getLsbD 0

/-- Is the low correction 0x06 applied (40_arith_logic.md R187). -/
def daaLow (a : Byte) (n h : Bool) : Bool := h || (!n && a.toNat % 16 > 0x09)

/-- Is the high correction 0x60 applied, which is also the new carry (40_arith_logic.md R187). -/
def daaHigh (a : Byte) (n c : Bool) : Bool := c || (!n && a.toNat > 0x99)

/-- `adj` (40_arith_logic.md R187). -/
def daaAdjust (a : Byte) (n h c : Bool) : Byte :=
  (if daaLow a n h then 0x06 else 0) ||| (if daaHigh a n c then 0x60 else 0)

/-- The adjusted accumulator `t` (40_arith_logic.md R187). -/
def daaResult (a : Byte) (n h c : Bool) : Byte :=
  if n then a - daaAdjust a n h c else a + daaAdjust a n h c

/-- The bit `v[b]` cleared (42_bitops_ext.md R289). -/
def clearBit (v : Byte) (b : Nat) : Byte := v &&& ~~~((1 : Byte) <<< b)

/-- The bit `v[b]` set (42_bitops_ext.md R291). -/
def raiseBit (v : Byte) (b : Nat) : Byte := v ||| ((1 : Byte) <<< b)

end Sys2Proof.Machine
end

