-- ==== Sys2Proof/Machine/Ops.lean ====
section
/-! DEFINITION. Memory access, the stack, raising an error, and the engine's commit of an instruction: every operation shared
by the meanings (20_memory.md, 43_stack.md R300, 60_exceptions.md R362, R363, R366). -/

namespace Sys2Proof.Machine

/-- What a meaning or a step answers. -/
abbrev Out := Host.Outcome State Fault Refusal

/-! ## Memory -/

/-- The content of a cell. -/
def Memory.read : Memory → Nat → Byte
  | [], _ => Config.unlisted
  | (k, v) :: rest, i => if k = i then v else Memory.read rest i

/-- The write of a cell, keeping the canonical form. -/
def Memory.write : Memory → Nat → Byte → Memory
  | [], i, v => if v = Config.unlisted then [] else [(i, v)]
  | (k, x) :: rest, i, v =>
    if i < k then
      if v = Config.unlisted then (k, x) :: rest else (i, v) :: (k, x) :: rest
    else if i = k then
      if v = Config.unlisted then rest else (k, v) :: rest
    else (k, x) :: Memory.write rest i v

/-- `Mem8(i)`: the byte, or 0x00 at or past N (20_memory.md R61). -/
def State.mem8 (s : State) (i : Nat) : Byte := if i < s.memSize then s.mem.read i else 0

/-- `MemRead(addr, 1)` (20_memory.md R62). -/
def State.read8 (s : State) (addr : Word) : Byte := s.mem8 addr.toNat

/-- `MemRead(addr, 2)`, little-endian, the second address modulo 65536 (20_memory.md R64). -/
def State.read16 (s : State) (addr : Word) : Word := joinBytes (s.read8 (addr + 1)) (s.read8 addr)

/-- `MemWrite(addr, 1, v)`; the error is the offending address of `StoreOutOfRange` (20_memory.md R63). -/
def State.store8 (s : State) (addr : Word) (v : Byte) : Except Word State :=
  if addr.toNat < s.memSize then .ok { s with mem := s.mem.write addr.toNat v } else .error addr

/-- `MemWrite(addr, 2, v)`: the low byte's address is tested first, and neither byte is written when one is out of range
(20_memory.md R65). -/
def State.store16 (s : State) (addr : Word) (v : Word) : Except Word State :=
  match s.store8 addr (loByte v) with
  | .ok t => t.store8 (addr + 1) (hiByte v)
  | .error x => .error x

/-- `Push16(v)`: the high byte at SP - 1, tested first, the low byte at SP - 2 (43_stack.md R300). -/
def State.push16 (s : State) (v : Word) : Except Word State :=
  match s.store8 (s.sp - 1) (hiByte v) with
  | .error x => .error x
  | .ok t =>
    match t.store8 (s.sp - 2) (loByte v) with
    | .error x => .error x
    | .ok u => .ok { u with sp := s.sp - 2 }

/-- The value `Pop16()` returns (43_stack.md R300). -/
def State.top16 (s : State) : Word := joinBytes (s.read8 (s.sp + 1)) (s.read8 s.sp)

/-- The state after `Pop16()` (43_stack.md R300). -/
def State.popped (s : State) : State := { s with sp := s.sp + 2 }

/-! ## Errors -/

/-- `fail(code, info)`: only `ST <- Failed` and `ERR` are written (60_exceptions.md R362, R366). Every error the engine
raises is taken here. -/
def State.fail (s : State) (e : Err) : State := { s with st := .failed, err := some e }

/-! ## The engine's commit -/

/-- `(pc0 + len) mod 65536`, the address of the instruction after this one (44_control.md R310). -/
def State.next (s : State) (d : Descriptor) : Word := s.pc + BitVec.ofNat 16 d.len

/-- The cost of a completed instruction: `cycles_nt` when a conditional transfer was not taken (60_exceptions.md R362). -/
def costOf (d : Descriptor) (taken : Bool) : Nat := if taken then d.cycles else d.cyclesNt

/-- The end of a step that raised nothing: `t` is the effect on the state `s`, and `ST`, `pc` and `CYC` follow from the
descriptor (60_exceptions.md R362, R363). -/
def commit (d : Descriptor) (taken : Bool) (s t : State) : State :=
  { t with
    st := if d.cls = .halt then .halted else t.st
    pc := if d.cls = .halt then s.pc else if d.ct then t.pc else s.next d
    cyc := s.cyc + BitVec.ofNat 64 (costOf d taken) }

/-- An instruction that cannot raise. -/
def retire (d : Descriptor) (s t : State) : Out := .next (commit d true s t)

/-- An instruction that stores: its effect, or the address of its first store out of range (60_exceptions.md R373). -/
def retireStore (d : Descriptor) (s : State) (r : Except Word State) : Out :=
  match r with
  | .ok t => .next (commit d true s t)
  | .error x => .next (s.fail (.storeOutOfRange x s.pc))

/-- A conditional transfer: the effect when the condition holds, else `pc <- next` and nothing else (44_control.md R310). -/
def retireCond (d : Descriptor) (s : State) (taken : Bool) (r : Except Word State) : Out :=
  if taken then retireStore d s r else .next (commit d false s { s with pc := s.next d })

/-- An instruction of class `illegal`: `UnrecognizedOpcode([op], pc0)` (45_system.md R346, 60_exceptions.md R362, R372). -/
def raiseIllegal (d : Descriptor) (s : State) : Out :=
  .next (s.fail (.unrecognizedOpcode [d.op] s.pc.toNat))

end Sys2Proof.Machine
end

