-- ==== Sys2Proof/Machine/Arith.lean ====
section
/-! DEFINITION. Arithmetic and logical instructions: 109 base entries (40_arith_logic.md R151 to R190). -/

namespace Sys2Proof.Machine

/-- `ADD A v`: `A <- t`, flags Z 0 H C (40_arith_logic.md R151 to R153). -/
def addA (s : State) (v : Byte) : State :=
  let r := add8 s.a v false
  { s with a := r.result }.setFlags (r.result == 0) false r.half r.carry

/-- `ADC A v`: flags Z 0 H C (40_arith_logic.md R154 to R156). -/
def adcA (s : State) (v : Byte) : State :=
  let r := add8 s.a v s.cf
  { s with a := r.result }.setFlags (r.result == 0) false r.half r.carry

/-- `SUB v`: flags Z 1 H C (40_arith_logic.md R157 to R159). -/
def subA (s : State) (v : Byte) : State :=
  let r := sub8 s.a v false
  { s with a := r.result }.setFlags (r.result == 0) true r.half r.carry

/-- `SBC A v`: flags Z 1 H C (40_arith_logic.md R160 to R162). -/
def sbcA (s : State) (v : Byte) : State :=
  let r := sub8 s.a v s.cf
  { s with a := r.result }.setFlags (r.result == 0) true r.half r.carry

/-- `CP v`: as SUB, A not written (40_arith_logic.md R172 to R174). -/
def cpA (s : State) (v : Byte) : State :=
  let r := sub8 s.a v false
  s.setFlags (r.result == 0) true r.half r.carry

/-- `AND v`: flags Z 0 1 0 (40_arith_logic.md R163 to R165). -/
def andA (s : State) (v : Byte) : State :=
  let t := s.a &&& v
  { s with a := t }.setFlags (t == 0) false true false

/-- `XOR v`: flags Z 0 0 0 (40_arith_logic.md R166 to R168). -/
def xorA (s : State) (v : Byte) : State :=
  let t := s.a ^^^ v
  { s with a := t }.setFlags (t == 0) false false false

/-- `OR v`: flags Z 0 0 0 (40_arith_logic.md R169 to R171). -/
def orA (s : State) (v : Byte) : State :=
  let t := s.a ||| v
  { s with a := t }.setFlags (t == 0) false false false

/-- The flags of an increment of the old value `v`: Z 0 H -, Cf unchanged (40_arith_logic.md R175, R176). -/
def incFlags (s : State) (v : Byte) : State := s.setFlags (v + 1 == 0) false (v &&& 0x0F == 0x0F) s.cf

/-- The flags of a decrement of the old value `v`: Z 1 H -, Cf unchanged (40_arith_logic.md R177, R178). -/
def decFlags (s : State) (v : Byte) : State := s.setFlags (v - 1 == 0) true (v &&& 0x0F == 0x00) s.cf

/-- `INC r` (40_arith_logic.md R175). -/
def incReg (s : State) (r : Reg8) : State := incFlags (s.setReg r (s.reg r + 1)) (s.reg r)

/-- `DEC r` (40_arith_logic.md R177). -/
def decReg (s : State) (r : Reg8) : State := decFlags (s.setReg r (s.reg r - 1)) (s.reg r)

/-- `INC (HL)` (40_arith_logic.md R176). -/
def incMem (s : State) : Except Word State :=
  (incFlags s (s.read8 s.hl)).store8 s.hl (s.read8 s.hl + 1)

/-- `DEC (HL)` (40_arith_logic.md R178). -/
def decMem (s : State) : Except Word State :=
  (decFlags s (s.read8 s.hl)).store8 s.hl (s.read8 s.hl - 1)

/-- `ADD HL rr`: flags - 0 H C (40_arith_logic.md R179). -/
def addHl (s : State) (v : Word) : State :=
  (s.setHl (s.hl + v)).setFlags s.zf false (half16 s.hl v) (carry16 s.hl v)

/-- `ADD SP r8`: flags 0 0 H C (40_arith_logic.md R182). -/
def addSp (s : State) (n : Byte) : State :=
  { s with sp := addSigned s.sp n }.setFlags false false (offsetHalf s.sp n) (offsetCarry s.sp n)

/-- An accumulator rotate: flags 0 0 0 C, `Zf` always cleared (40_arith_logic.md R183 to R186). -/
def rotAcc (s : State) (op : Rot) : State :=
  { s with a := rotResult op s.a s.cf }.setFlags false false false (rotCarry op s.a)

/-- `DAA`: flags Z - 0 C (40_arith_logic.md R187). -/
def decimalAdjust (s : State) : State :=
  let t := daaResult s.a s.nf s.hf s.cf
  { s with a := t }.setFlags (t == 0) s.nf false (daaHigh s.a s.nf s.cf)

/-- `CPL`: flags - 1 1 - (40_arith_logic.md R188). -/
def complement (s : State) : State := { s with a := s.a ^^^ 0xFF }.setFlags s.zf true true s.cf

/-- `SCF`: flags - 0 0 1 (40_arith_logic.md R189). -/
def setCarry (s : State) : State := s.setFlags s.zf false false true

/-- `CCF`: flags - 0 0 C (40_arith_logic.md R190). -/
def flipCarry (s : State) : State := s.setFlags s.zf false false (!s.cf)

/-- `INC BC`, 03: R180. -/
def execIncBc (s : State) : Out := retire (baseCat 0x03) s (s.setPair .bc (s.bc + 1))

/-- `INC B`, 04: R175. -/
def execIncB (s : State) : Out := retire (baseCat 0x04) s (incReg s .b)

/-- `DEC B`, 05: R177. -/
def execDecB (s : State) : Out := retire (baseCat 0x05) s (decReg s .b)

/-- `RLCA`, 07: R183. -/
def execRlcAcc (s : State) : Out := retire (baseCat 0x07) s (rotAcc s .rlc)

/-- `ADD HL BC`, 09: R179. -/
def execAddHlBc (s : State) : Out := retire (baseCat 0x09) s (addHl s s.bc)

/-- `DEC BC`, 0B: R181. -/
def execDecBc (s : State) : Out := retire (baseCat 0x0B) s (s.setPair .bc (s.bc - 1))

/-- `INC C`, 0C: R175. -/
def execIncC (s : State) : Out := retire (baseCat 0x0C) s (incReg s .c)

/-- `DEC C`, 0D: R177. -/
def execDecC (s : State) : Out := retire (baseCat 0x0D) s (decReg s .c)

/-- `RRCA`, 0F: R184. -/
def execRrcAcc (s : State) : Out := retire (baseCat 0x0F) s (rotAcc s .rrc)

/-- `INC DE`, 13: R180. -/
def execIncDe (s : State) : Out := retire (baseCat 0x13) s (s.setPair .de (s.de + 1))

/-- `INC D`, 14: R175. -/
def execIncD (s : State) : Out := retire (baseCat 0x14) s (incReg s .d)

/-- `DEC D`, 15: R177. -/
def execDecD (s : State) : Out := retire (baseCat 0x15) s (decReg s .d)

/-- `RLA`, 17: R185. -/
def execRlAcc (s : State) : Out := retire (baseCat 0x17) s (rotAcc s .rl)

/-- `ADD HL DE`, 19: R179. -/
def execAddHlDe (s : State) : Out := retire (baseCat 0x19) s (addHl s s.de)

/-- `DEC DE`, 1B: R181. -/
def execDecDe (s : State) : Out := retire (baseCat 0x1B) s (s.setPair .de (s.de - 1))

/-- `INC E`, 1C: R175. -/
def execIncE (s : State) : Out := retire (baseCat 0x1C) s (incReg s .e)

/-- `DEC E`, 1D: R177. -/
def execDecE (s : State) : Out := retire (baseCat 0x1D) s (decReg s .e)

/-- `RRA`, 1F: R186. -/
def execRrAcc (s : State) : Out := retire (baseCat 0x1F) s (rotAcc s .rr)

/-- `INC HL`, 23: R180. -/
def execIncHl (s : State) : Out := retire (baseCat 0x23) s (s.setPair .hl (s.hl + 1))

/-- `INC H`, 24: R175. -/
def execIncH (s : State) : Out := retire (baseCat 0x24) s (incReg s .h)

/-- `DEC H`, 25: R177. -/
def execDecH (s : State) : Out := retire (baseCat 0x25) s (decReg s .h)

/-- `DAA`, 27: R187. -/
def execDaa (s : State) : Out := retire (baseCat 0x27) s (decimalAdjust s)

/-- `ADD HL HL`, 29: R179. -/
def execAddHlHl (s : State) : Out := retire (baseCat 0x29) s (addHl s s.hl)

/-- `DEC HL`, 2B: R181. -/
def execDecHl (s : State) : Out := retire (baseCat 0x2B) s (s.setPair .hl (s.hl - 1))

/-- `INC L`, 2C: R175. -/
def execIncL (s : State) : Out := retire (baseCat 0x2C) s (incReg s .l)

/-- `DEC L`, 2D: R177. -/
def execDecL (s : State) : Out := retire (baseCat 0x2D) s (decReg s .l)

/-- `CPL`, 2F: R188. -/
def execCplAcc (s : State) : Out := retire (baseCat 0x2F) s (complement s)

/-- `INC SP`, 33: R180. -/
def execIncSp (s : State) : Out := retire (baseCat 0x33) s (s.setPair .sp (s.sp + 1))

/-- `INC (HL)`, 34: R176. -/
def execIncAtHl (s : State) : Out := retireStore (baseCat 0x34) s (incMem s)

/-- `DEC (HL)`, 35: R178. -/
def execDecAtHl (s : State) : Out := retireStore (baseCat 0x35) s (decMem s)

/-- `SCF`, 37: R189. -/
def execScf (s : State) : Out := retire (baseCat 0x37) s (setCarry s)

/-- `ADD HL SP`, 39: R179. -/
def execAddHlSp (s : State) : Out := retire (baseCat 0x39) s (addHl s s.sp)

/-- `DEC SP`, 3B: R181. -/
def execDecSp (s : State) : Out := retire (baseCat 0x3B) s (s.setPair .sp (s.sp - 1))

/-- `INC A`, 3C: R175. -/
def execIncA (s : State) : Out := retire (baseCat 0x3C) s (incReg s .a)

/-- `DEC A`, 3D: R177. -/
def execDecA (s : State) : Out := retire (baseCat 0x3D) s (decReg s .a)

/-- `CCF`, 3F: R190. -/
def execCcf (s : State) : Out := retire (baseCat 0x3F) s (flipCarry s)

/-- `ADD A B`, 80: R151. -/
def execAddAB (s : State) : Out := retire (baseCat 0x80) s (addA s s.b)

/-- `ADD A C`, 81: R151. -/
def execAddAC (s : State) : Out := retire (baseCat 0x81) s (addA s s.c)

/-- `ADD A D`, 82: R151. -/
def execAddAD (s : State) : Out := retire (baseCat 0x82) s (addA s s.d)

/-- `ADD A E`, 83: R151. -/
def execAddAE (s : State) : Out := retire (baseCat 0x83) s (addA s s.e)

/-- `ADD A H`, 84: R151. -/
def execAddAH (s : State) : Out := retire (baseCat 0x84) s (addA s s.h)

/-- `ADD A L`, 85: R151. -/
def execAddAL (s : State) : Out := retire (baseCat 0x85) s (addA s s.l)

/-- `ADD A (HL)`, 86: R152. -/
def execAddAAtHl (s : State) : Out := retire (baseCat 0x86) s (addA s (s.read8 s.hl))

/-- `ADD A A`, 87: R151. -/
def execAddAA (s : State) : Out := retire (baseCat 0x87) s (addA s s.a)

/-- `ADC A B`, 88: R154. -/
def execAdcAB (s : State) : Out := retire (baseCat 0x88) s (adcA s s.b)

/-- `ADC A C`, 89: R154. -/
def execAdcAC (s : State) : Out := retire (baseCat 0x89) s (adcA s s.c)

/-- `ADC A D`, 8A: R154. -/
def execAdcAD (s : State) : Out := retire (baseCat 0x8A) s (adcA s s.d)

/-- `ADC A E`, 8B: R154. -/
def execAdcAE (s : State) : Out := retire (baseCat 0x8B) s (adcA s s.e)

/-- `ADC A H`, 8C: R154. -/
def execAdcAH (s : State) : Out := retire (baseCat 0x8C) s (adcA s s.h)

/-- `ADC A L`, 8D: R154. -/
def execAdcAL (s : State) : Out := retire (baseCat 0x8D) s (adcA s s.l)

/-- `ADC A (HL)`, 8E: R155. -/
def execAdcAAtHl (s : State) : Out := retire (baseCat 0x8E) s (adcA s (s.read8 s.hl))

/-- `ADC A A`, 8F: R154. -/
def execAdcAA (s : State) : Out := retire (baseCat 0x8F) s (adcA s s.a)

/-- `SUB B`, 90: R157. -/
def execSubB (s : State) : Out := retire (baseCat 0x90) s (subA s s.b)

/-- `SUB C`, 91: R157. -/
def execSubC (s : State) : Out := retire (baseCat 0x91) s (subA s s.c)

/-- `SUB D`, 92: R157. -/
def execSubD (s : State) : Out := retire (baseCat 0x92) s (subA s s.d)

/-- `SUB E`, 93: R157. -/
def execSubE (s : State) : Out := retire (baseCat 0x93) s (subA s s.e)

/-- `SUB H`, 94: R157. -/
def execSubH (s : State) : Out := retire (baseCat 0x94) s (subA s s.h)

/-- `SUB L`, 95: R157. -/
def execSubL (s : State) : Out := retire (baseCat 0x95) s (subA s s.l)

/-- `SUB (HL)`, 96: R158. -/
def execSubAtHl (s : State) : Out := retire (baseCat 0x96) s (subA s (s.read8 s.hl))

/-- `SUB A`, 97: R157. -/
def execSubA (s : State) : Out := retire (baseCat 0x97) s (subA s s.a)

/-- `SBC A B`, 98: R160. -/
def execSbcAB (s : State) : Out := retire (baseCat 0x98) s (sbcA s s.b)

/-- `SBC A C`, 99: R160. -/
def execSbcAC (s : State) : Out := retire (baseCat 0x99) s (sbcA s s.c)

/-- `SBC A D`, 9A: R160. -/
def execSbcAD (s : State) : Out := retire (baseCat 0x9A) s (sbcA s s.d)

/-- `SBC A E`, 9B: R160. -/
def execSbcAE (s : State) : Out := retire (baseCat 0x9B) s (sbcA s s.e)

/-- `SBC A H`, 9C: R160. -/
def execSbcAH (s : State) : Out := retire (baseCat 0x9C) s (sbcA s s.h)

/-- `SBC A L`, 9D: R160. -/
def execSbcAL (s : State) : Out := retire (baseCat 0x9D) s (sbcA s s.l)

/-- `SBC A (HL)`, 9E: R161. -/
def execSbcAAtHl (s : State) : Out := retire (baseCat 0x9E) s (sbcA s (s.read8 s.hl))

/-- `SBC A A`, 9F: R160. -/
def execSbcAA (s : State) : Out := retire (baseCat 0x9F) s (sbcA s s.a)

/-- `AND B`, A0: R163. -/
def execAndB (s : State) : Out := retire (baseCat 0xA0) s (andA s s.b)

/-- `AND C`, A1: R163. -/
def execAndC (s : State) : Out := retire (baseCat 0xA1) s (andA s s.c)

/-- `AND D`, A2: R163. -/
def execAndD (s : State) : Out := retire (baseCat 0xA2) s (andA s s.d)

/-- `AND E`, A3: R163. -/
def execAndE (s : State) : Out := retire (baseCat 0xA3) s (andA s s.e)

/-- `AND H`, A4: R163. -/
def execAndH (s : State) : Out := retire (baseCat 0xA4) s (andA s s.h)

/-- `AND L`, A5: R163. -/
def execAndL (s : State) : Out := retire (baseCat 0xA5) s (andA s s.l)

/-- `AND (HL)`, A6: R164. -/
def execAndAtHl (s : State) : Out := retire (baseCat 0xA6) s (andA s (s.read8 s.hl))

/-- `AND A`, A7: R163. -/
def execAndA (s : State) : Out := retire (baseCat 0xA7) s (andA s s.a)

/-- `XOR B`, A8: R166. -/
def execXorB (s : State) : Out := retire (baseCat 0xA8) s (xorA s s.b)

/-- `XOR C`, A9: R166. -/
def execXorC (s : State) : Out := retire (baseCat 0xA9) s (xorA s s.c)

/-- `XOR D`, AA: R166. -/
def execXorD (s : State) : Out := retire (baseCat 0xAA) s (xorA s s.d)

/-- `XOR E`, AB: R166. -/
def execXorE (s : State) : Out := retire (baseCat 0xAB) s (xorA s s.e)

/-- `XOR H`, AC: R166. -/
def execXorH (s : State) : Out := retire (baseCat 0xAC) s (xorA s s.h)

/-- `XOR L`, AD: R166. -/
def execXorL (s : State) : Out := retire (baseCat 0xAD) s (xorA s s.l)

/-- `XOR (HL)`, AE: R167. -/
def execXorAtHl (s : State) : Out := retire (baseCat 0xAE) s (xorA s (s.read8 s.hl))

/-- `XOR A`, AF: R166. -/
def execXorA (s : State) : Out := retire (baseCat 0xAF) s (xorA s s.a)

/-- `OR B`, B0: R169. -/
def execOrB (s : State) : Out := retire (baseCat 0xB0) s (orA s s.b)

/-- `OR C`, B1: R169. -/
def execOrC (s : State) : Out := retire (baseCat 0xB1) s (orA s s.c)

/-- `OR D`, B2: R169. -/
def execOrD (s : State) : Out := retire (baseCat 0xB2) s (orA s s.d)

/-- `OR E`, B3: R169. -/
def execOrE (s : State) : Out := retire (baseCat 0xB3) s (orA s s.e)

/-- `OR H`, B4: R169. -/
def execOrH (s : State) : Out := retire (baseCat 0xB4) s (orA s s.h)

/-- `OR L`, B5: R169. -/
def execOrL (s : State) : Out := retire (baseCat 0xB5) s (orA s s.l)

/-- `OR (HL)`, B6: R170. -/
def execOrAtHl (s : State) : Out := retire (baseCat 0xB6) s (orA s (s.read8 s.hl))

/-- `OR A`, B7: R169. -/
def execOrA (s : State) : Out := retire (baseCat 0xB7) s (orA s s.a)

/-- `CP B`, B8: R172. -/
def execCpB (s : State) : Out := retire (baseCat 0xB8) s (cpA s s.b)

/-- `CP C`, B9: R172. -/
def execCpC (s : State) : Out := retire (baseCat 0xB9) s (cpA s s.c)

/-- `CP D`, BA: R172. -/
def execCpD (s : State) : Out := retire (baseCat 0xBA) s (cpA s s.d)

/-- `CP E`, BB: R172. -/
def execCpE (s : State) : Out := retire (baseCat 0xBB) s (cpA s s.e)

/-- `CP H`, BC: R172. -/
def execCpH (s : State) : Out := retire (baseCat 0xBC) s (cpA s s.h)

/-- `CP L`, BD: R172. -/
def execCpL (s : State) : Out := retire (baseCat 0xBD) s (cpA s s.l)

/-- `CP (HL)`, BE: R173. -/
def execCpAtHl (s : State) : Out := retire (baseCat 0xBE) s (cpA s (s.read8 s.hl))

/-- `CP A`, BF: R172. -/
def execCpA (s : State) : Out := retire (baseCat 0xBF) s (cpA s s.a)

/-- `ADD A d8`, C6: R153. -/
def execAddAD8 (n : Byte) (s : State) : Out := retire (baseCat 0xC6) s (addA s n)

/-- `ADC A d8`, CE: R156. -/
def execAdcAD8 (n : Byte) (s : State) : Out := retire (baseCat 0xCE) s (adcA s n)

/-- `SUB d8`, D6: R159. -/
def execSubD8 (n : Byte) (s : State) : Out := retire (baseCat 0xD6) s (subA s n)

/-- `SBC A d8`, DE: R162. -/
def execSbcAD8 (n : Byte) (s : State) : Out := retire (baseCat 0xDE) s (sbcA s n)

/-- `AND d8`, E6: R165. -/
def execAndD8 (n : Byte) (s : State) : Out := retire (baseCat 0xE6) s (andA s n)

/-- `ADD SP r8`, E8: R182. -/
def execAddSpR8 (n : Byte) (s : State) : Out := retire (baseCat 0xE8) s (addSp s n)

/-- `XOR d8`, EE: R168. -/
def execXorD8 (n : Byte) (s : State) : Out := retire (baseCat 0xEE) s (xorA s n)

/-- `OR d8`, F6: R171. -/
def execOrD8 (n : Byte) (s : State) : Out := retire (baseCat 0xF6) s (orA s n)

/-- `CP d8`, FE: R174. -/
def execCpD8 (n : Byte) (s : State) : Out := retire (baseCat 0xFE) s (cpA s n)

end Sys2Proof.Machine
end

