-- ==== Sys2Proof/Machine/Control.lean ====
section
/-! DEFINITION. Control-transfer instructions: 30 base entries (44_control.md R312 to R322). -/

namespace Sys2Proof.Machine

/-- `pc <- target` (44_control.md R310). -/
def jumpTo (s : State) (target : Word) : State := { s with pc := target }

/-- `pc <- (pc0 + len + sext_8(n)) mod 65536` (44_control.md R315). -/
def jumpBy (s : State) (d : Descriptor) (n : Byte) : State := { s with pc := addSigned (s.next d) n }

/-- `Push16(next); pc <- target` (44_control.md R317, R322). -/
def call (s : State) (d : Descriptor) (target : Word) : Except Word State :=
  match s.push16 (s.next d) with
  | .ok t => .ok { t with pc := target }
  | .error x => .error x

/-- `pc <- Pop16()` (44_control.md R319). -/
def returnTo (s : State) : State := { s.popped with pc := s.top16 }

/-- `JR r8`, 18: R315. -/
def execJrR8 (n : Byte) (s : State) : Out := retire (baseCat 0x18) s (jumpBy s (baseCat 0x18) n)

/-- `JR NZ r8`, 20: R316. -/
def execJrNzR8 (n : Byte) (s : State) : Out := retireCond (baseCat 0x20) s (s.cond .nz) (.ok (jumpBy s (baseCat 0x20) n))

/-- `JR Z r8`, 28: R316. -/
def execJrZR8 (n : Byte) (s : State) : Out := retireCond (baseCat 0x28) s (s.cond .z) (.ok (jumpBy s (baseCat 0x28) n))

/-- `JR NC r8`, 30: R316. -/
def execJrNcR8 (n : Byte) (s : State) : Out := retireCond (baseCat 0x30) s (s.cond .nc) (.ok (jumpBy s (baseCat 0x30) n))

/-- `JR C r8`, 38: R316. -/
def execJrCR8 (n : Byte) (s : State) : Out := retireCond (baseCat 0x38) s (s.cond .c) (.ok (jumpBy s (baseCat 0x38) n))

/-- `RET NZ`, C0: R320. -/
def execRetNz (s : State) : Out := retireCond (baseCat 0xC0) s (s.cond .nz) (.ok (returnTo s))

/-- `JP NZ a16`, C2: R313. -/
def execJpNzA16 (n : Word) (s : State) : Out := retireCond (baseCat 0xC2) s (s.cond .nz) (.ok (jumpTo s n))

/-- `JP a16`, C3: R312. -/
def execJpA16 (n : Word) (s : State) : Out := retire (baseCat 0xC3) s (jumpTo s n)

/-- `CALL NZ a16`, C4: R318. -/
def execCallNzA16 (n : Word) (s : State) : Out := retireCond (baseCat 0xC4) s (s.cond .nz) (call s (baseCat 0xC4) n)

/-- `RST 00H`, C7: R322. -/
def execRst00 (s : State) : Out := retireStore (baseCat 0xC7) s (call s (baseCat 0xC7) 0x0000)

/-- `RET Z`, C8: R320. -/
def execRetZ (s : State) : Out := retireCond (baseCat 0xC8) s (s.cond .z) (.ok (returnTo s))

/-- `RET`, C9: R319. -/
def execRet (s : State) : Out := retire (baseCat 0xC9) s (returnTo s)

/-- `JP Z a16`, CA: R313. -/
def execJpZA16 (n : Word) (s : State) : Out := retireCond (baseCat 0xCA) s (s.cond .z) (.ok (jumpTo s n))

/-- `CALL Z a16`, CC: R318. -/
def execCallZA16 (n : Word) (s : State) : Out := retireCond (baseCat 0xCC) s (s.cond .z) (call s (baseCat 0xCC) n)

/-- `CALL a16`, CD: R317. -/
def execCallA16 (n : Word) (s : State) : Out := retireStore (baseCat 0xCD) s (call s (baseCat 0xCD) n)

/-- `RST 08H`, CF: R322. -/
def execRst08 (s : State) : Out := retireStore (baseCat 0xCF) s (call s (baseCat 0xCF) 0x0008)

/-- `RET NC`, D0: R320. -/
def execRetNc (s : State) : Out := retireCond (baseCat 0xD0) s (s.cond .nc) (.ok (returnTo s))

/-- `JP NC a16`, D2: R313. -/
def execJpNcA16 (n : Word) (s : State) : Out := retireCond (baseCat 0xD2) s (s.cond .nc) (.ok (jumpTo s n))

/-- `CALL NC a16`, D4: R318. -/
def execCallNcA16 (n : Word) (s : State) : Out := retireCond (baseCat 0xD4) s (s.cond .nc) (call s (baseCat 0xD4) n)

/-- `RST 10H`, D7: R322. -/
def execRst10 (s : State) : Out := retireStore (baseCat 0xD7) s (call s (baseCat 0xD7) 0x0010)

/-- `RET C`, D8: R320. -/
def execRetC (s : State) : Out := retireCond (baseCat 0xD8) s (s.cond .c) (.ok (returnTo s))

/-- `RETI`, D9: R321. -/
def execReti (s : State) : Out := retire (baseCat 0xD9) s (returnTo s)

/-- `JP C a16`, DA: R313. -/
def execJpCA16 (n : Word) (s : State) : Out := retireCond (baseCat 0xDA) s (s.cond .c) (.ok (jumpTo s n))

/-- `CALL C a16`, DC: R318. -/
def execCallCA16 (n : Word) (s : State) : Out := retireCond (baseCat 0xDC) s (s.cond .c) (call s (baseCat 0xDC) n)

/-- `RST 18H`, DF: R322. -/
def execRst18 (s : State) : Out := retireStore (baseCat 0xDF) s (call s (baseCat 0xDF) 0x0018)

/-- `RST 20H`, E7: R322. -/
def execRst20 (s : State) : Out := retireStore (baseCat 0xE7) s (call s (baseCat 0xE7) 0x0020)

/-- `JP (HL)`, E9: R314. -/
def execJpAtHl (s : State) : Out := retire (baseCat 0xE9) s (jumpTo s s.hl)

/-- `RST 28H`, EF: R322. -/
def execRst28 (s : State) : Out := retireStore (baseCat 0xEF) s (call s (baseCat 0xEF) 0x0028)

/-- `RST 30H`, F7: R322. -/
def execRst30 (s : State) : Out := retireStore (baseCat 0xF7) s (call s (baseCat 0xF7) 0x0030)

/-- `RST 38H`, FF: R322. -/
def execRst38 (s : State) : Out := retireStore (baseCat 0xFF) s (call s (baseCat 0xFF) 0x0038)

end Sys2Proof.Machine
end

