-- ==== Sys2Proof/Machine/Extended.lean ====
section
/-! DEFINITION. Extended-space instructions: 256 entries (42_bitops_ext.md R271 to R292). -/

namespace Sys2Proof.Machine

/-- The flags of a rotate, shift or swap with result `r`: Z 0 0 C (42_bitops_ext.md section 5). -/
def rotFlags (s : State) (op : Rot) (v : Byte) : State :=
  s.setFlags (rotResult op v s.cf == 0) false false (rotCarry op v)

/-- A rotate, shift or swap of a register (42_bitops_ext.md R271 to R285). -/
def rotReg (s : State) (op : Rot) (r : Reg8) : State :=
  (rotFlags s op (s.reg r)).setReg r (rotResult op (s.reg r) s.cf)

/-- A rotate, shift or swap of the byte at HL (42_bitops_ext.md R272 to R286). -/
def rotMem (s : State) (op : Rot) : Except Word State :=
  (rotFlags s op (s.read8 s.hl)).store8 s.hl (rotResult op (s.read8 s.hl) s.cf)

/-- `BIT b`: flags Z 0 1 -, `Zf` set when the tested bit is 0 (42_bitops_ext.md R287, R288). -/
def testBit (s : State) (v : Byte) (b : Nat) : State := s.setFlags (!v.getLsbD b) false true s.cf

/-- `RLC B`, CB 00: R271. -/
def execRlcB (s : State) : Out := retire (extCat 0x00) s (rotReg s .rlc .b)

/-- `RLC C`, CB 01: R271. -/
def execRlcC (s : State) : Out := retire (extCat 0x01) s (rotReg s .rlc .c)

/-- `RLC D`, CB 02: R271. -/
def execRlcD (s : State) : Out := retire (extCat 0x02) s (rotReg s .rlc .d)

/-- `RLC E`, CB 03: R271. -/
def execRlcE (s : State) : Out := retire (extCat 0x03) s (rotReg s .rlc .e)

/-- `RLC H`, CB 04: R271. -/
def execRlcH (s : State) : Out := retire (extCat 0x04) s (rotReg s .rlc .h)

/-- `RLC L`, CB 05: R271. -/
def execRlcL (s : State) : Out := retire (extCat 0x05) s (rotReg s .rlc .l)

/-- `RLC (HL)`, CB 06: R272. -/
def execRlcAtHl (s : State) : Out := retireStore (extCat 0x06) s (rotMem s .rlc)

/-- `RLC A`, CB 07: R271. -/
def execRlcA (s : State) : Out := retire (extCat 0x07) s (rotReg s .rlc .a)

/-- `RRC B`, CB 08: R273. -/
def execRrcB (s : State) : Out := retire (extCat 0x08) s (rotReg s .rrc .b)

/-- `RRC C`, CB 09: R273. -/
def execRrcC (s : State) : Out := retire (extCat 0x09) s (rotReg s .rrc .c)

/-- `RRC D`, CB 0A: R273. -/
def execRrcD (s : State) : Out := retire (extCat 0x0A) s (rotReg s .rrc .d)

/-- `RRC E`, CB 0B: R273. -/
def execRrcE (s : State) : Out := retire (extCat 0x0B) s (rotReg s .rrc .e)

/-- `RRC H`, CB 0C: R273. -/
def execRrcH (s : State) : Out := retire (extCat 0x0C) s (rotReg s .rrc .h)

/-- `RRC L`, CB 0D: R273. -/
def execRrcL (s : State) : Out := retire (extCat 0x0D) s (rotReg s .rrc .l)

/-- `RRC (HL)`, CB 0E: R274. -/
def execRrcAtHl (s : State) : Out := retireStore (extCat 0x0E) s (rotMem s .rrc)

/-- `RRC A`, CB 0F: R273. -/
def execRrcA (s : State) : Out := retire (extCat 0x0F) s (rotReg s .rrc .a)

/-- `RL B`, CB 10: R275. -/
def execRlB (s : State) : Out := retire (extCat 0x10) s (rotReg s .rl .b)

/-- `RL C`, CB 11: R275. -/
def execRlC (s : State) : Out := retire (extCat 0x11) s (rotReg s .rl .c)

/-- `RL D`, CB 12: R275. -/
def execRlD (s : State) : Out := retire (extCat 0x12) s (rotReg s .rl .d)

/-- `RL E`, CB 13: R275. -/
def execRlE (s : State) : Out := retire (extCat 0x13) s (rotReg s .rl .e)

/-- `RL H`, CB 14: R275. -/
def execRlH (s : State) : Out := retire (extCat 0x14) s (rotReg s .rl .h)

/-- `RL L`, CB 15: R275. -/
def execRlL (s : State) : Out := retire (extCat 0x15) s (rotReg s .rl .l)

/-- `RL (HL)`, CB 16: R276. -/
def execRlAtHl (s : State) : Out := retireStore (extCat 0x16) s (rotMem s .rl)

/-- `RL A`, CB 17: R275. -/
def execRlA (s : State) : Out := retire (extCat 0x17) s (rotReg s .rl .a)

/-- `RR B`, CB 18: R277. -/
def execRrB (s : State) : Out := retire (extCat 0x18) s (rotReg s .rr .b)

/-- `RR C`, CB 19: R277. -/
def execRrC (s : State) : Out := retire (extCat 0x19) s (rotReg s .rr .c)

/-- `RR D`, CB 1A: R277. -/
def execRrD (s : State) : Out := retire (extCat 0x1A) s (rotReg s .rr .d)

/-- `RR E`, CB 1B: R277. -/
def execRrE (s : State) : Out := retire (extCat 0x1B) s (rotReg s .rr .e)

/-- `RR H`, CB 1C: R277. -/
def execRrH (s : State) : Out := retire (extCat 0x1C) s (rotReg s .rr .h)

/-- `RR L`, CB 1D: R277. -/
def execRrL (s : State) : Out := retire (extCat 0x1D) s (rotReg s .rr .l)

/-- `RR (HL)`, CB 1E: R278. -/
def execRrAtHl (s : State) : Out := retireStore (extCat 0x1E) s (rotMem s .rr)

/-- `RR A`, CB 1F: R277. -/
def execRrA (s : State) : Out := retire (extCat 0x1F) s (rotReg s .rr .a)

/-- `SLA B`, CB 20: R279. -/
def execSlaB (s : State) : Out := retire (extCat 0x20) s (rotReg s .sla .b)

/-- `SLA C`, CB 21: R279. -/
def execSlaC (s : State) : Out := retire (extCat 0x21) s (rotReg s .sla .c)

/-- `SLA D`, CB 22: R279. -/
def execSlaD (s : State) : Out := retire (extCat 0x22) s (rotReg s .sla .d)

/-- `SLA E`, CB 23: R279. -/
def execSlaE (s : State) : Out := retire (extCat 0x23) s (rotReg s .sla .e)

/-- `SLA H`, CB 24: R279. -/
def execSlaH (s : State) : Out := retire (extCat 0x24) s (rotReg s .sla .h)

/-- `SLA L`, CB 25: R279. -/
def execSlaL (s : State) : Out := retire (extCat 0x25) s (rotReg s .sla .l)

/-- `SLA (HL)`, CB 26: R280. -/
def execSlaAtHl (s : State) : Out := retireStore (extCat 0x26) s (rotMem s .sla)

/-- `SLA A`, CB 27: R279. -/
def execSlaA (s : State) : Out := retire (extCat 0x27) s (rotReg s .sla .a)

/-- `SRA B`, CB 28: R281. -/
def execSraB (s : State) : Out := retire (extCat 0x28) s (rotReg s .sra .b)

/-- `SRA C`, CB 29: R281. -/
def execSraC (s : State) : Out := retire (extCat 0x29) s (rotReg s .sra .c)

/-- `SRA D`, CB 2A: R281. -/
def execSraD (s : State) : Out := retire (extCat 0x2A) s (rotReg s .sra .d)

/-- `SRA E`, CB 2B: R281. -/
def execSraE (s : State) : Out := retire (extCat 0x2B) s (rotReg s .sra .e)

/-- `SRA H`, CB 2C: R281. -/
def execSraH (s : State) : Out := retire (extCat 0x2C) s (rotReg s .sra .h)

/-- `SRA L`, CB 2D: R281. -/
def execSraL (s : State) : Out := retire (extCat 0x2D) s (rotReg s .sra .l)

/-- `SRA (HL)`, CB 2E: R282. -/
def execSraAtHl (s : State) : Out := retireStore (extCat 0x2E) s (rotMem s .sra)

/-- `SRA A`, CB 2F: R281. -/
def execSraA (s : State) : Out := retire (extCat 0x2F) s (rotReg s .sra .a)

/-- `SWAP B`, CB 30: R283. -/
def execSwapB (s : State) : Out := retire (extCat 0x30) s (rotReg s .swap .b)

/-- `SWAP C`, CB 31: R283. -/
def execSwapC (s : State) : Out := retire (extCat 0x31) s (rotReg s .swap .c)

/-- `SWAP D`, CB 32: R283. -/
def execSwapD (s : State) : Out := retire (extCat 0x32) s (rotReg s .swap .d)

/-- `SWAP E`, CB 33: R283. -/
def execSwapE (s : State) : Out := retire (extCat 0x33) s (rotReg s .swap .e)

/-- `SWAP H`, CB 34: R283. -/
def execSwapH (s : State) : Out := retire (extCat 0x34) s (rotReg s .swap .h)

/-- `SWAP L`, CB 35: R283. -/
def execSwapL (s : State) : Out := retire (extCat 0x35) s (rotReg s .swap .l)

/-- `SWAP (HL)`, CB 36: R284. -/
def execSwapAtHl (s : State) : Out := retireStore (extCat 0x36) s (rotMem s .swap)

/-- `SWAP A`, CB 37: R283. -/
def execSwapA (s : State) : Out := retire (extCat 0x37) s (rotReg s .swap .a)

/-- `SRL B`, CB 38: R285. -/
def execSrlB (s : State) : Out := retire (extCat 0x38) s (rotReg s .srl .b)

/-- `SRL C`, CB 39: R285. -/
def execSrlC (s : State) : Out := retire (extCat 0x39) s (rotReg s .srl .c)

/-- `SRL D`, CB 3A: R285. -/
def execSrlD (s : State) : Out := retire (extCat 0x3A) s (rotReg s .srl .d)

/-- `SRL E`, CB 3B: R285. -/
def execSrlE (s : State) : Out := retire (extCat 0x3B) s (rotReg s .srl .e)

/-- `SRL H`, CB 3C: R285. -/
def execSrlH (s : State) : Out := retire (extCat 0x3C) s (rotReg s .srl .h)

/-- `SRL L`, CB 3D: R285. -/
def execSrlL (s : State) : Out := retire (extCat 0x3D) s (rotReg s .srl .l)

/-- `SRL (HL)`, CB 3E: R286. -/
def execSrlAtHl (s : State) : Out := retireStore (extCat 0x3E) s (rotMem s .srl)

/-- `SRL A`, CB 3F: R285. -/
def execSrlA (s : State) : Out := retire (extCat 0x3F) s (rotReg s .srl .a)

/-- `BIT 0 B`, CB 40: R287. -/
def execBit0B (s : State) : Out := retire (extCat 0x40) s (testBit s s.b 0)

/-- `BIT 0 C`, CB 41: R287. -/
def execBit0C (s : State) : Out := retire (extCat 0x41) s (testBit s s.c 0)

/-- `BIT 0 D`, CB 42: R287. -/
def execBit0D (s : State) : Out := retire (extCat 0x42) s (testBit s s.d 0)

/-- `BIT 0 E`, CB 43: R287. -/
def execBit0E (s : State) : Out := retire (extCat 0x43) s (testBit s s.e 0)

/-- `BIT 0 H`, CB 44: R287. -/
def execBit0H (s : State) : Out := retire (extCat 0x44) s (testBit s s.h 0)

/-- `BIT 0 L`, CB 45: R287. -/
def execBit0L (s : State) : Out := retire (extCat 0x45) s (testBit s s.l 0)

/-- `BIT 0 (HL)`, CB 46: R288. -/
def execBit0AtHl (s : State) : Out := retire (extCat 0x46) s (testBit s (s.read8 s.hl) 0)

/-- `BIT 0 A`, CB 47: R287. -/
def execBit0A (s : State) : Out := retire (extCat 0x47) s (testBit s s.a 0)

/-- `BIT 1 B`, CB 48: R287. -/
def execBit1B (s : State) : Out := retire (extCat 0x48) s (testBit s s.b 1)

/-- `BIT 1 C`, CB 49: R287. -/
def execBit1C (s : State) : Out := retire (extCat 0x49) s (testBit s s.c 1)

/-- `BIT 1 D`, CB 4A: R287. -/
def execBit1D (s : State) : Out := retire (extCat 0x4A) s (testBit s s.d 1)

/-- `BIT 1 E`, CB 4B: R287. -/
def execBit1E (s : State) : Out := retire (extCat 0x4B) s (testBit s s.e 1)

/-- `BIT 1 H`, CB 4C: R287. -/
def execBit1H (s : State) : Out := retire (extCat 0x4C) s (testBit s s.h 1)

/-- `BIT 1 L`, CB 4D: R287. -/
def execBit1L (s : State) : Out := retire (extCat 0x4D) s (testBit s s.l 1)

/-- `BIT 1 (HL)`, CB 4E: R288. -/
def execBit1AtHl (s : State) : Out := retire (extCat 0x4E) s (testBit s (s.read8 s.hl) 1)

/-- `BIT 1 A`, CB 4F: R287. -/
def execBit1A (s : State) : Out := retire (extCat 0x4F) s (testBit s s.a 1)

/-- `BIT 2 B`, CB 50: R287. -/
def execBit2B (s : State) : Out := retire (extCat 0x50) s (testBit s s.b 2)

/-- `BIT 2 C`, CB 51: R287. -/
def execBit2C (s : State) : Out := retire (extCat 0x51) s (testBit s s.c 2)

/-- `BIT 2 D`, CB 52: R287. -/
def execBit2D (s : State) : Out := retire (extCat 0x52) s (testBit s s.d 2)

/-- `BIT 2 E`, CB 53: R287. -/
def execBit2E (s : State) : Out := retire (extCat 0x53) s (testBit s s.e 2)

/-- `BIT 2 H`, CB 54: R287. -/
def execBit2H (s : State) : Out := retire (extCat 0x54) s (testBit s s.h 2)

/-- `BIT 2 L`, CB 55: R287. -/
def execBit2L (s : State) : Out := retire (extCat 0x55) s (testBit s s.l 2)

/-- `BIT 2 (HL)`, CB 56: R288. -/
def execBit2AtHl (s : State) : Out := retire (extCat 0x56) s (testBit s (s.read8 s.hl) 2)

/-- `BIT 2 A`, CB 57: R287. -/
def execBit2A (s : State) : Out := retire (extCat 0x57) s (testBit s s.a 2)

/-- `BIT 3 B`, CB 58: R287. -/
def execBit3B (s : State) : Out := retire (extCat 0x58) s (testBit s s.b 3)

/-- `BIT 3 C`, CB 59: R287. -/
def execBit3C (s : State) : Out := retire (extCat 0x59) s (testBit s s.c 3)

/-- `BIT 3 D`, CB 5A: R287. -/
def execBit3D (s : State) : Out := retire (extCat 0x5A) s (testBit s s.d 3)

/-- `BIT 3 E`, CB 5B: R287. -/
def execBit3E (s : State) : Out := retire (extCat 0x5B) s (testBit s s.e 3)

/-- `BIT 3 H`, CB 5C: R287. -/
def execBit3H (s : State) : Out := retire (extCat 0x5C) s (testBit s s.h 3)

/-- `BIT 3 L`, CB 5D: R287. -/
def execBit3L (s : State) : Out := retire (extCat 0x5D) s (testBit s s.l 3)

/-- `BIT 3 (HL)`, CB 5E: R288. -/
def execBit3AtHl (s : State) : Out := retire (extCat 0x5E) s (testBit s (s.read8 s.hl) 3)

/-- `BIT 3 A`, CB 5F: R287. -/
def execBit3A (s : State) : Out := retire (extCat 0x5F) s (testBit s s.a 3)

/-- `BIT 4 B`, CB 60: R287. -/
def execBit4B (s : State) : Out := retire (extCat 0x60) s (testBit s s.b 4)

/-- `BIT 4 C`, CB 61: R287. -/
def execBit4C (s : State) : Out := retire (extCat 0x61) s (testBit s s.c 4)

/-- `BIT 4 D`, CB 62: R287. -/
def execBit4D (s : State) : Out := retire (extCat 0x62) s (testBit s s.d 4)

/-- `BIT 4 E`, CB 63: R287. -/
def execBit4E (s : State) : Out := retire (extCat 0x63) s (testBit s s.e 4)

/-- `BIT 4 H`, CB 64: R287. -/
def execBit4H (s : State) : Out := retire (extCat 0x64) s (testBit s s.h 4)

/-- `BIT 4 L`, CB 65: R287. -/
def execBit4L (s : State) : Out := retire (extCat 0x65) s (testBit s s.l 4)

/-- `BIT 4 (HL)`, CB 66: R288. -/
def execBit4AtHl (s : State) : Out := retire (extCat 0x66) s (testBit s (s.read8 s.hl) 4)

/-- `BIT 4 A`, CB 67: R287. -/
def execBit4A (s : State) : Out := retire (extCat 0x67) s (testBit s s.a 4)

/-- `BIT 5 B`, CB 68: R287. -/
def execBit5B (s : State) : Out := retire (extCat 0x68) s (testBit s s.b 5)

/-- `BIT 5 C`, CB 69: R287. -/
def execBit5C (s : State) : Out := retire (extCat 0x69) s (testBit s s.c 5)

/-- `BIT 5 D`, CB 6A: R287. -/
def execBit5D (s : State) : Out := retire (extCat 0x6A) s (testBit s s.d 5)

/-- `BIT 5 E`, CB 6B: R287. -/
def execBit5E (s : State) : Out := retire (extCat 0x6B) s (testBit s s.e 5)

/-- `BIT 5 H`, CB 6C: R287. -/
def execBit5H (s : State) : Out := retire (extCat 0x6C) s (testBit s s.h 5)

/-- `BIT 5 L`, CB 6D: R287. -/
def execBit5L (s : State) : Out := retire (extCat 0x6D) s (testBit s s.l 5)

/-- `BIT 5 (HL)`, CB 6E: R288. -/
def execBit5AtHl (s : State) : Out := retire (extCat 0x6E) s (testBit s (s.read8 s.hl) 5)

/-- `BIT 5 A`, CB 6F: R287. -/
def execBit5A (s : State) : Out := retire (extCat 0x6F) s (testBit s s.a 5)

/-- `BIT 6 B`, CB 70: R287. -/
def execBit6B (s : State) : Out := retire (extCat 0x70) s (testBit s s.b 6)

/-- `BIT 6 C`, CB 71: R287. -/
def execBit6C (s : State) : Out := retire (extCat 0x71) s (testBit s s.c 6)

/-- `BIT 6 D`, CB 72: R287. -/
def execBit6D (s : State) : Out := retire (extCat 0x72) s (testBit s s.d 6)

/-- `BIT 6 E`, CB 73: R287. -/
def execBit6E (s : State) : Out := retire (extCat 0x73) s (testBit s s.e 6)

/-- `BIT 6 H`, CB 74: R287. -/
def execBit6H (s : State) : Out := retire (extCat 0x74) s (testBit s s.h 6)

/-- `BIT 6 L`, CB 75: R287. -/
def execBit6L (s : State) : Out := retire (extCat 0x75) s (testBit s s.l 6)

/-- `BIT 6 (HL)`, CB 76: R288. -/
def execBit6AtHl (s : State) : Out := retire (extCat 0x76) s (testBit s (s.read8 s.hl) 6)

/-- `BIT 6 A`, CB 77: R287. -/
def execBit6A (s : State) : Out := retire (extCat 0x77) s (testBit s s.a 6)

/-- `BIT 7 B`, CB 78: R287. -/
def execBit7B (s : State) : Out := retire (extCat 0x78) s (testBit s s.b 7)

/-- `BIT 7 C`, CB 79: R287. -/
def execBit7C (s : State) : Out := retire (extCat 0x79) s (testBit s s.c 7)

/-- `BIT 7 D`, CB 7A: R287. -/
def execBit7D (s : State) : Out := retire (extCat 0x7A) s (testBit s s.d 7)

/-- `BIT 7 E`, CB 7B: R287. -/
def execBit7E (s : State) : Out := retire (extCat 0x7B) s (testBit s s.e 7)

/-- `BIT 7 H`, CB 7C: R287. -/
def execBit7H (s : State) : Out := retire (extCat 0x7C) s (testBit s s.h 7)

/-- `BIT 7 L`, CB 7D: R287. -/
def execBit7L (s : State) : Out := retire (extCat 0x7D) s (testBit s s.l 7)

/-- `BIT 7 (HL)`, CB 7E: R288. -/
def execBit7AtHl (s : State) : Out := retire (extCat 0x7E) s (testBit s (s.read8 s.hl) 7)

/-- `BIT 7 A`, CB 7F: R287. -/
def execBit7A (s : State) : Out := retire (extCat 0x7F) s (testBit s s.a 7)

/-- `RES 0 B`, CB 80: R289. -/
def execRes0B (s : State) : Out := retire (extCat 0x80) s (s.setReg .b (clearBit s.b 0))

/-- `RES 0 C`, CB 81: R289. -/
def execRes0C (s : State) : Out := retire (extCat 0x81) s (s.setReg .c (clearBit s.c 0))

/-- `RES 0 D`, CB 82: R289. -/
def execRes0D (s : State) : Out := retire (extCat 0x82) s (s.setReg .d (clearBit s.d 0))

/-- `RES 0 E`, CB 83: R289. -/
def execRes0E (s : State) : Out := retire (extCat 0x83) s (s.setReg .e (clearBit s.e 0))

/-- `RES 0 H`, CB 84: R289. -/
def execRes0H (s : State) : Out := retire (extCat 0x84) s (s.setReg .h (clearBit s.h 0))

/-- `RES 0 L`, CB 85: R289. -/
def execRes0L (s : State) : Out := retire (extCat 0x85) s (s.setReg .l (clearBit s.l 0))

/-- `RES 0 (HL)`, CB 86: R290. -/
def execRes0AtHl (s : State) : Out := retireStore (extCat 0x86) s (s.store8 s.hl (clearBit (s.read8 s.hl) 0))

/-- `RES 0 A`, CB 87: R289. -/
def execRes0A (s : State) : Out := retire (extCat 0x87) s (s.setReg .a (clearBit s.a 0))

/-- `RES 1 B`, CB 88: R289. -/
def execRes1B (s : State) : Out := retire (extCat 0x88) s (s.setReg .b (clearBit s.b 1))

/-- `RES 1 C`, CB 89: R289. -/
def execRes1C (s : State) : Out := retire (extCat 0x89) s (s.setReg .c (clearBit s.c 1))

/-- `RES 1 D`, CB 8A: R289. -/
def execRes1D (s : State) : Out := retire (extCat 0x8A) s (s.setReg .d (clearBit s.d 1))

/-- `RES 1 E`, CB 8B: R289. -/
def execRes1E (s : State) : Out := retire (extCat 0x8B) s (s.setReg .e (clearBit s.e 1))

/-- `RES 1 H`, CB 8C: R289. -/
def execRes1H (s : State) : Out := retire (extCat 0x8C) s (s.setReg .h (clearBit s.h 1))

/-- `RES 1 L`, CB 8D: R289. -/
def execRes1L (s : State) : Out := retire (extCat 0x8D) s (s.setReg .l (clearBit s.l 1))

/-- `RES 1 (HL)`, CB 8E: R290. -/
def execRes1AtHl (s : State) : Out := retireStore (extCat 0x8E) s (s.store8 s.hl (clearBit (s.read8 s.hl) 1))

/-- `RES 1 A`, CB 8F: R289. -/
def execRes1A (s : State) : Out := retire (extCat 0x8F) s (s.setReg .a (clearBit s.a 1))

/-- `RES 2 B`, CB 90: R289. -/
def execRes2B (s : State) : Out := retire (extCat 0x90) s (s.setReg .b (clearBit s.b 2))

/-- `RES 2 C`, CB 91: R289. -/
def execRes2C (s : State) : Out := retire (extCat 0x91) s (s.setReg .c (clearBit s.c 2))

/-- `RES 2 D`, CB 92: R289. -/
def execRes2D (s : State) : Out := retire (extCat 0x92) s (s.setReg .d (clearBit s.d 2))

/-- `RES 2 E`, CB 93: R289. -/
def execRes2E (s : State) : Out := retire (extCat 0x93) s (s.setReg .e (clearBit s.e 2))

/-- `RES 2 H`, CB 94: R289. -/
def execRes2H (s : State) : Out := retire (extCat 0x94) s (s.setReg .h (clearBit s.h 2))

/-- `RES 2 L`, CB 95: R289. -/
def execRes2L (s : State) : Out := retire (extCat 0x95) s (s.setReg .l (clearBit s.l 2))

/-- `RES 2 (HL)`, CB 96: R290. -/
def execRes2AtHl (s : State) : Out := retireStore (extCat 0x96) s (s.store8 s.hl (clearBit (s.read8 s.hl) 2))

/-- `RES 2 A`, CB 97: R289. -/
def execRes2A (s : State) : Out := retire (extCat 0x97) s (s.setReg .a (clearBit s.a 2))

/-- `RES 3 B`, CB 98: R289. -/
def execRes3B (s : State) : Out := retire (extCat 0x98) s (s.setReg .b (clearBit s.b 3))

/-- `RES 3 C`, CB 99: R289. -/
def execRes3C (s : State) : Out := retire (extCat 0x99) s (s.setReg .c (clearBit s.c 3))

/-- `RES 3 D`, CB 9A: R289. -/
def execRes3D (s : State) : Out := retire (extCat 0x9A) s (s.setReg .d (clearBit s.d 3))

/-- `RES 3 E`, CB 9B: R289. -/
def execRes3E (s : State) : Out := retire (extCat 0x9B) s (s.setReg .e (clearBit s.e 3))

/-- `RES 3 H`, CB 9C: R289. -/
def execRes3H (s : State) : Out := retire (extCat 0x9C) s (s.setReg .h (clearBit s.h 3))

/-- `RES 3 L`, CB 9D: R289. -/
def execRes3L (s : State) : Out := retire (extCat 0x9D) s (s.setReg .l (clearBit s.l 3))

/-- `RES 3 (HL)`, CB 9E: R290. -/
def execRes3AtHl (s : State) : Out := retireStore (extCat 0x9E) s (s.store8 s.hl (clearBit (s.read8 s.hl) 3))

/-- `RES 3 A`, CB 9F: R289. -/
def execRes3A (s : State) : Out := retire (extCat 0x9F) s (s.setReg .a (clearBit s.a 3))

/-- `RES 4 B`, CB A0: R289. -/
def execRes4B (s : State) : Out := retire (extCat 0xA0) s (s.setReg .b (clearBit s.b 4))

/-- `RES 4 C`, CB A1: R289. -/
def execRes4C (s : State) : Out := retire (extCat 0xA1) s (s.setReg .c (clearBit s.c 4))

/-- `RES 4 D`, CB A2: R289. -/
def execRes4D (s : State) : Out := retire (extCat 0xA2) s (s.setReg .d (clearBit s.d 4))

/-- `RES 4 E`, CB A3: R289. -/
def execRes4E (s : State) : Out := retire (extCat 0xA3) s (s.setReg .e (clearBit s.e 4))

/-- `RES 4 H`, CB A4: R289. -/
def execRes4H (s : State) : Out := retire (extCat 0xA4) s (s.setReg .h (clearBit s.h 4))

/-- `RES 4 L`, CB A5: R289. -/
def execRes4L (s : State) : Out := retire (extCat 0xA5) s (s.setReg .l (clearBit s.l 4))

/-- `RES 4 (HL)`, CB A6: R290. -/
def execRes4AtHl (s : State) : Out := retireStore (extCat 0xA6) s (s.store8 s.hl (clearBit (s.read8 s.hl) 4))

/-- `RES 4 A`, CB A7: R289. -/
def execRes4A (s : State) : Out := retire (extCat 0xA7) s (s.setReg .a (clearBit s.a 4))

/-- `RES 5 B`, CB A8: R289. -/
def execRes5B (s : State) : Out := retire (extCat 0xA8) s (s.setReg .b (clearBit s.b 5))

/-- `RES 5 C`, CB A9: R289. -/
def execRes5C (s : State) : Out := retire (extCat 0xA9) s (s.setReg .c (clearBit s.c 5))

/-- `RES 5 D`, CB AA: R289. -/
def execRes5D (s : State) : Out := retire (extCat 0xAA) s (s.setReg .d (clearBit s.d 5))

/-- `RES 5 E`, CB AB: R289. -/
def execRes5E (s : State) : Out := retire (extCat 0xAB) s (s.setReg .e (clearBit s.e 5))

/-- `RES 5 H`, CB AC: R289. -/
def execRes5H (s : State) : Out := retire (extCat 0xAC) s (s.setReg .h (clearBit s.h 5))

/-- `RES 5 L`, CB AD: R289. -/
def execRes5L (s : State) : Out := retire (extCat 0xAD) s (s.setReg .l (clearBit s.l 5))

/-- `RES 5 (HL)`, CB AE: R290. -/
def execRes5AtHl (s : State) : Out := retireStore (extCat 0xAE) s (s.store8 s.hl (clearBit (s.read8 s.hl) 5))

/-- `RES 5 A`, CB AF: R289. -/
def execRes5A (s : State) : Out := retire (extCat 0xAF) s (s.setReg .a (clearBit s.a 5))

/-- `RES 6 B`, CB B0: R289. -/
def execRes6B (s : State) : Out := retire (extCat 0xB0) s (s.setReg .b (clearBit s.b 6))

/-- `RES 6 C`, CB B1: R289. -/
def execRes6C (s : State) : Out := retire (extCat 0xB1) s (s.setReg .c (clearBit s.c 6))

/-- `RES 6 D`, CB B2: R289. -/
def execRes6D (s : State) : Out := retire (extCat 0xB2) s (s.setReg .d (clearBit s.d 6))

/-- `RES 6 E`, CB B3: R289. -/
def execRes6E (s : State) : Out := retire (extCat 0xB3) s (s.setReg .e (clearBit s.e 6))

/-- `RES 6 H`, CB B4: R289. -/
def execRes6H (s : State) : Out := retire (extCat 0xB4) s (s.setReg .h (clearBit s.h 6))

/-- `RES 6 L`, CB B5: R289. -/
def execRes6L (s : State) : Out := retire (extCat 0xB5) s (s.setReg .l (clearBit s.l 6))

/-- `RES 6 (HL)`, CB B6: R290. -/
def execRes6AtHl (s : State) : Out := retireStore (extCat 0xB6) s (s.store8 s.hl (clearBit (s.read8 s.hl) 6))

/-- `RES 6 A`, CB B7: R289. -/
def execRes6A (s : State) : Out := retire (extCat 0xB7) s (s.setReg .a (clearBit s.a 6))

/-- `RES 7 B`, CB B8: R289. -/
def execRes7B (s : State) : Out := retire (extCat 0xB8) s (s.setReg .b (clearBit s.b 7))

/-- `RES 7 C`, CB B9: R289. -/
def execRes7C (s : State) : Out := retire (extCat 0xB9) s (s.setReg .c (clearBit s.c 7))

/-- `RES 7 D`, CB BA: R289. -/
def execRes7D (s : State) : Out := retire (extCat 0xBA) s (s.setReg .d (clearBit s.d 7))

/-- `RES 7 E`, CB BB: R289. -/
def execRes7E (s : State) : Out := retire (extCat 0xBB) s (s.setReg .e (clearBit s.e 7))

/-- `RES 7 H`, CB BC: R289. -/
def execRes7H (s : State) : Out := retire (extCat 0xBC) s (s.setReg .h (clearBit s.h 7))

/-- `RES 7 L`, CB BD: R289. -/
def execRes7L (s : State) : Out := retire (extCat 0xBD) s (s.setReg .l (clearBit s.l 7))

/-- `RES 7 (HL)`, CB BE: R290. -/
def execRes7AtHl (s : State) : Out := retireStore (extCat 0xBE) s (s.store8 s.hl (clearBit (s.read8 s.hl) 7))

/-- `RES 7 A`, CB BF: R289. -/
def execRes7A (s : State) : Out := retire (extCat 0xBF) s (s.setReg .a (clearBit s.a 7))

/-- `SET 0 B`, CB C0: R291. -/
def execSet0B (s : State) : Out := retire (extCat 0xC0) s (s.setReg .b (raiseBit s.b 0))

/-- `SET 0 C`, CB C1: R291. -/
def execSet0C (s : State) : Out := retire (extCat 0xC1) s (s.setReg .c (raiseBit s.c 0))

/-- `SET 0 D`, CB C2: R291. -/
def execSet0D (s : State) : Out := retire (extCat 0xC2) s (s.setReg .d (raiseBit s.d 0))

/-- `SET 0 E`, CB C3: R291. -/
def execSet0E (s : State) : Out := retire (extCat 0xC3) s (s.setReg .e (raiseBit s.e 0))

/-- `SET 0 H`, CB C4: R291. -/
def execSet0H (s : State) : Out := retire (extCat 0xC4) s (s.setReg .h (raiseBit s.h 0))

/-- `SET 0 L`, CB C5: R291. -/
def execSet0L (s : State) : Out := retire (extCat 0xC5) s (s.setReg .l (raiseBit s.l 0))

/-- `SET 0 (HL)`, CB C6: R292. -/
def execSet0AtHl (s : State) : Out := retireStore (extCat 0xC6) s (s.store8 s.hl (raiseBit (s.read8 s.hl) 0))

/-- `SET 0 A`, CB C7: R291. -/
def execSet0A (s : State) : Out := retire (extCat 0xC7) s (s.setReg .a (raiseBit s.a 0))

/-- `SET 1 B`, CB C8: R291. -/
def execSet1B (s : State) : Out := retire (extCat 0xC8) s (s.setReg .b (raiseBit s.b 1))

/-- `SET 1 C`, CB C9: R291. -/
def execSet1C (s : State) : Out := retire (extCat 0xC9) s (s.setReg .c (raiseBit s.c 1))

/-- `SET 1 D`, CB CA: R291. -/
def execSet1D (s : State) : Out := retire (extCat 0xCA) s (s.setReg .d (raiseBit s.d 1))

/-- `SET 1 E`, CB CB: R291. -/
def execSet1E (s : State) : Out := retire (extCat 0xCB) s (s.setReg .e (raiseBit s.e 1))

/-- `SET 1 H`, CB CC: R291. -/
def execSet1H (s : State) : Out := retire (extCat 0xCC) s (s.setReg .h (raiseBit s.h 1))

/-- `SET 1 L`, CB CD: R291. -/
def execSet1L (s : State) : Out := retire (extCat 0xCD) s (s.setReg .l (raiseBit s.l 1))

/-- `SET 1 (HL)`, CB CE: R292. -/
def execSet1AtHl (s : State) : Out := retireStore (extCat 0xCE) s (s.store8 s.hl (raiseBit (s.read8 s.hl) 1))

/-- `SET 1 A`, CB CF: R291. -/
def execSet1A (s : State) : Out := retire (extCat 0xCF) s (s.setReg .a (raiseBit s.a 1))

/-- `SET 2 B`, CB D0: R291. -/
def execSet2B (s : State) : Out := retire (extCat 0xD0) s (s.setReg .b (raiseBit s.b 2))

/-- `SET 2 C`, CB D1: R291. -/
def execSet2C (s : State) : Out := retire (extCat 0xD1) s (s.setReg .c (raiseBit s.c 2))

/-- `SET 2 D`, CB D2: R291. -/
def execSet2D (s : State) : Out := retire (extCat 0xD2) s (s.setReg .d (raiseBit s.d 2))

/-- `SET 2 E`, CB D3: R291. -/
def execSet2E (s : State) : Out := retire (extCat 0xD3) s (s.setReg .e (raiseBit s.e 2))

/-- `SET 2 H`, CB D4: R291. -/
def execSet2H (s : State) : Out := retire (extCat 0xD4) s (s.setReg .h (raiseBit s.h 2))

/-- `SET 2 L`, CB D5: R291. -/
def execSet2L (s : State) : Out := retire (extCat 0xD5) s (s.setReg .l (raiseBit s.l 2))

/-- `SET 2 (HL)`, CB D6: R292. -/
def execSet2AtHl (s : State) : Out := retireStore (extCat 0xD6) s (s.store8 s.hl (raiseBit (s.read8 s.hl) 2))

/-- `SET 2 A`, CB D7: R291. -/
def execSet2A (s : State) : Out := retire (extCat 0xD7) s (s.setReg .a (raiseBit s.a 2))

/-- `SET 3 B`, CB D8: R291. -/
def execSet3B (s : State) : Out := retire (extCat 0xD8) s (s.setReg .b (raiseBit s.b 3))

/-- `SET 3 C`, CB D9: R291. -/
def execSet3C (s : State) : Out := retire (extCat 0xD9) s (s.setReg .c (raiseBit s.c 3))

/-- `SET 3 D`, CB DA: R291. -/
def execSet3D (s : State) : Out := retire (extCat 0xDA) s (s.setReg .d (raiseBit s.d 3))

/-- `SET 3 E`, CB DB: R291. -/
def execSet3E (s : State) : Out := retire (extCat 0xDB) s (s.setReg .e (raiseBit s.e 3))

/-- `SET 3 H`, CB DC: R291. -/
def execSet3H (s : State) : Out := retire (extCat 0xDC) s (s.setReg .h (raiseBit s.h 3))

/-- `SET 3 L`, CB DD: R291. -/
def execSet3L (s : State) : Out := retire (extCat 0xDD) s (s.setReg .l (raiseBit s.l 3))

/-- `SET 3 (HL)`, CB DE: R292. -/
def execSet3AtHl (s : State) : Out := retireStore (extCat 0xDE) s (s.store8 s.hl (raiseBit (s.read8 s.hl) 3))

/-- `SET 3 A`, CB DF: R291. -/
def execSet3A (s : State) : Out := retire (extCat 0xDF) s (s.setReg .a (raiseBit s.a 3))

/-- `SET 4 B`, CB E0: R291. -/
def execSet4B (s : State) : Out := retire (extCat 0xE0) s (s.setReg .b (raiseBit s.b 4))

/-- `SET 4 C`, CB E1: R291. -/
def execSet4C (s : State) : Out := retire (extCat 0xE1) s (s.setReg .c (raiseBit s.c 4))

/-- `SET 4 D`, CB E2: R291. -/
def execSet4D (s : State) : Out := retire (extCat 0xE2) s (s.setReg .d (raiseBit s.d 4))

/-- `SET 4 E`, CB E3: R291. -/
def execSet4E (s : State) : Out := retire (extCat 0xE3) s (s.setReg .e (raiseBit s.e 4))

/-- `SET 4 H`, CB E4: R291. -/
def execSet4H (s : State) : Out := retire (extCat 0xE4) s (s.setReg .h (raiseBit s.h 4))

/-- `SET 4 L`, CB E5: R291. -/
def execSet4L (s : State) : Out := retire (extCat 0xE5) s (s.setReg .l (raiseBit s.l 4))

/-- `SET 4 (HL)`, CB E6: R292. -/
def execSet4AtHl (s : State) : Out := retireStore (extCat 0xE6) s (s.store8 s.hl (raiseBit (s.read8 s.hl) 4))

/-- `SET 4 A`, CB E7: R291. -/
def execSet4A (s : State) : Out := retire (extCat 0xE7) s (s.setReg .a (raiseBit s.a 4))

/-- `SET 5 B`, CB E8: R291. -/
def execSet5B (s : State) : Out := retire (extCat 0xE8) s (s.setReg .b (raiseBit s.b 5))

/-- `SET 5 C`, CB E9: R291. -/
def execSet5C (s : State) : Out := retire (extCat 0xE9) s (s.setReg .c (raiseBit s.c 5))

/-- `SET 5 D`, CB EA: R291. -/
def execSet5D (s : State) : Out := retire (extCat 0xEA) s (s.setReg .d (raiseBit s.d 5))

/-- `SET 5 E`, CB EB: R291. -/
def execSet5E (s : State) : Out := retire (extCat 0xEB) s (s.setReg .e (raiseBit s.e 5))

/-- `SET 5 H`, CB EC: R291. -/
def execSet5H (s : State) : Out := retire (extCat 0xEC) s (s.setReg .h (raiseBit s.h 5))

/-- `SET 5 L`, CB ED: R291. -/
def execSet5L (s : State) : Out := retire (extCat 0xED) s (s.setReg .l (raiseBit s.l 5))

/-- `SET 5 (HL)`, CB EE: R292. -/
def execSet5AtHl (s : State) : Out := retireStore (extCat 0xEE) s (s.store8 s.hl (raiseBit (s.read8 s.hl) 5))

/-- `SET 5 A`, CB EF: R291. -/
def execSet5A (s : State) : Out := retire (extCat 0xEF) s (s.setReg .a (raiseBit s.a 5))

/-- `SET 6 B`, CB F0: R291. -/
def execSet6B (s : State) : Out := retire (extCat 0xF0) s (s.setReg .b (raiseBit s.b 6))

/-- `SET 6 C`, CB F1: R291. -/
def execSet6C (s : State) : Out := retire (extCat 0xF1) s (s.setReg .c (raiseBit s.c 6))

/-- `SET 6 D`, CB F2: R291. -/
def execSet6D (s : State) : Out := retire (extCat 0xF2) s (s.setReg .d (raiseBit s.d 6))

/-- `SET 6 E`, CB F3: R291. -/
def execSet6E (s : State) : Out := retire (extCat 0xF3) s (s.setReg .e (raiseBit s.e 6))

/-- `SET 6 H`, CB F4: R291. -/
def execSet6H (s : State) : Out := retire (extCat 0xF4) s (s.setReg .h (raiseBit s.h 6))

/-- `SET 6 L`, CB F5: R291. -/
def execSet6L (s : State) : Out := retire (extCat 0xF5) s (s.setReg .l (raiseBit s.l 6))

/-- `SET 6 (HL)`, CB F6: R292. -/
def execSet6AtHl (s : State) : Out := retireStore (extCat 0xF6) s (s.store8 s.hl (raiseBit (s.read8 s.hl) 6))

/-- `SET 6 A`, CB F7: R291. -/
def execSet6A (s : State) : Out := retire (extCat 0xF7) s (s.setReg .a (raiseBit s.a 6))

/-- `SET 7 B`, CB F8: R291. -/
def execSet7B (s : State) : Out := retire (extCat 0xF8) s (s.setReg .b (raiseBit s.b 7))

/-- `SET 7 C`, CB F9: R291. -/
def execSet7C (s : State) : Out := retire (extCat 0xF9) s (s.setReg .c (raiseBit s.c 7))

/-- `SET 7 D`, CB FA: R291. -/
def execSet7D (s : State) : Out := retire (extCat 0xFA) s (s.setReg .d (raiseBit s.d 7))

/-- `SET 7 E`, CB FB: R291. -/
def execSet7E (s : State) : Out := retire (extCat 0xFB) s (s.setReg .e (raiseBit s.e 7))

/-- `SET 7 H`, CB FC: R291. -/
def execSet7H (s : State) : Out := retire (extCat 0xFC) s (s.setReg .h (raiseBit s.h 7))

/-- `SET 7 L`, CB FD: R291. -/
def execSet7L (s : State) : Out := retire (extCat 0xFD) s (s.setReg .l (raiseBit s.l 7))

/-- `SET 7 (HL)`, CB FE: R292. -/
def execSet7AtHl (s : State) : Out := retireStore (extCat 0xFE) s (s.store8 s.hl (raiseBit (s.read8 s.hl) 7))

/-- `SET 7 A`, CB FF: R291. -/
def execSet7A (s : State) : Out := retire (extCat 0xFF) s (s.setReg .a (raiseBit s.a 7))

end Sys2Proof.Machine
end

