-- ==== Sys2Proof/Machine/Load.lean ====
section
/-! DEFINITION. Load instructions: 92 base entries (41_load.md R221 to R243). -/

namespace Sys2Proof.Machine

/-- The address `0xFF00 + v` of the short loads (41_load.md R232 to R235). -/
def highPage (v : Byte) : Word := 0xFF00 + zext16 v

/-- `LD (HL+) A` and `LD (HL-) A`: the store at the old HL, then `HL <- next` (41_load.md R236, R238). -/
def storeStep (s : State) (next : Word) : Except Word State :=
  match s.store8 s.hl s.a with
  | .ok t => .ok (t.setHl next)
  | .error x => .error x

/-- `LD A (HL+)` and `LD A (HL-)`: the load from the old HL and `HL <- next` (41_load.md R237, R239). -/
def loadStep (s : State) (next : Word) : State := (s.setReg .a (s.read8 s.hl)).setHl next

/-- `LD HL SP+r8`: flags 0 0 H C as for `ADD SP r8` (41_load.md R243). -/
def loadHlOffset (s : State) (n : Byte) : State :=
  (s.setHl (addSigned s.sp n)).setFlags false false (offsetHalf s.sp n) (offsetCarry s.sp n)

/-- `LD BC d16`, 01: R240. -/
def execLdBcD16 (n : Word) (s : State) : Out := retire (baseCat 0x01) s (s.setPair .bc n)

/-- `LD (BC) A`, 02: R228. -/
def execLdAtBcA (s : State) : Out := retireStore (baseCat 0x02) s (s.store8 s.bc s.a)

/-- `LD B d8`, 06: R222. -/
def execLdBD8 (n : Byte) (s : State) : Out := retire (baseCat 0x06) s (s.setReg .b n)

/-- `LD (a16) SP`, 08: R241. -/
def execLdAtA16Sp (n : Word) (s : State) : Out := retireStore (baseCat 0x08) s (s.store16 n s.sp)

/-- `LD A (BC)`, 0A: R226. -/
def execLdAAtBc (s : State) : Out := retire (baseCat 0x0A) s (s.setReg .a (s.read8 s.bc))

/-- `LD C d8`, 0E: R222. -/
def execLdCD8 (n : Byte) (s : State) : Out := retire (baseCat 0x0E) s (s.setReg .c n)

/-- `LD DE d16`, 11: R240. -/
def execLdDeD16 (n : Word) (s : State) : Out := retire (baseCat 0x11) s (s.setPair .de n)

/-- `LD (DE) A`, 12: R229. -/
def execLdAtDeA (s : State) : Out := retireStore (baseCat 0x12) s (s.store8 s.de s.a)

/-- `LD D d8`, 16: R222. -/
def execLdDD8 (n : Byte) (s : State) : Out := retire (baseCat 0x16) s (s.setReg .d n)

/-- `LD A (DE)`, 1A: R227. -/
def execLdAAtDe (s : State) : Out := retire (baseCat 0x1A) s (s.setReg .a (s.read8 s.de))

/-- `LD E d8`, 1E: R222. -/
def execLdED8 (n : Byte) (s : State) : Out := retire (baseCat 0x1E) s (s.setReg .e n)

/-- `LD HL d16`, 21: R240. -/
def execLdHlD16 (n : Word) (s : State) : Out := retire (baseCat 0x21) s (s.setPair .hl n)

/-- `LD (HL+) A`, 22: R236. -/
def execLdAtHlIncA (s : State) : Out := retireStore (baseCat 0x22) s (storeStep s (s.hl + 1))

/-- `LD H d8`, 26: R222. -/
def execLdHD8 (n : Byte) (s : State) : Out := retire (baseCat 0x26) s (s.setReg .h n)

/-- `LD A (HL+)`, 2A: R237. -/
def execLdAAtHlInc (s : State) : Out := retire (baseCat 0x2A) s (loadStep s (s.hl + 1))

/-- `LD L d8`, 2E: R222. -/
def execLdLD8 (n : Byte) (s : State) : Out := retire (baseCat 0x2E) s (s.setReg .l n)

/-- `LD SP d16`, 31: R240. -/
def execLdSpD16 (n : Word) (s : State) : Out := retire (baseCat 0x31) s (s.setPair .sp n)

/-- `LD (HL-) A`, 32: R238. -/
def execLdAtHlDecA (s : State) : Out := retireStore (baseCat 0x32) s (storeStep s (s.hl - 1))

/-- `LD (HL) d8`, 36: R225. -/
def execLdAtHlD8 (n : Byte) (s : State) : Out := retireStore (baseCat 0x36) s (s.store8 s.hl n)

/-- `LD A (HL-)`, 3A: R239. -/
def execLdAAtHlDec (s : State) : Out := retire (baseCat 0x3A) s (loadStep s (s.hl - 1))

/-- `LD A d8`, 3E: R222. -/
def execLdAD8 (n : Byte) (s : State) : Out := retire (baseCat 0x3E) s (s.setReg .a n)

/-- `LD B B`, 40: R221. -/
def execLdBB (s : State) : Out := retire (baseCat 0x40) s (s.setReg .b s.b)

/-- `LD B C`, 41: R221. -/
def execLdBC (s : State) : Out := retire (baseCat 0x41) s (s.setReg .b s.c)

/-- `LD B D`, 42: R221. -/
def execLdBD (s : State) : Out := retire (baseCat 0x42) s (s.setReg .b s.d)

/-- `LD B E`, 43: R221. -/
def execLdBE (s : State) : Out := retire (baseCat 0x43) s (s.setReg .b s.e)

/-- `LD B H`, 44: R221. -/
def execLdBH (s : State) : Out := retire (baseCat 0x44) s (s.setReg .b s.h)

/-- `LD B L`, 45: R221. -/
def execLdBL (s : State) : Out := retire (baseCat 0x45) s (s.setReg .b s.l)

/-- `LD B (HL)`, 46: R223. -/
def execLdBAtHl (s : State) : Out := retire (baseCat 0x46) s (s.setReg .b (s.read8 s.hl))

/-- `LD B A`, 47: R221. -/
def execLdBA (s : State) : Out := retire (baseCat 0x47) s (s.setReg .b s.a)

/-- `LD C B`, 48: R221. -/
def execLdCB (s : State) : Out := retire (baseCat 0x48) s (s.setReg .c s.b)

/-- `LD C C`, 49: R221. -/
def execLdCC (s : State) : Out := retire (baseCat 0x49) s (s.setReg .c s.c)

/-- `LD C D`, 4A: R221. -/
def execLdCD (s : State) : Out := retire (baseCat 0x4A) s (s.setReg .c s.d)

/-- `LD C E`, 4B: R221. -/
def execLdCE (s : State) : Out := retire (baseCat 0x4B) s (s.setReg .c s.e)

/-- `LD C H`, 4C: R221. -/
def execLdCH (s : State) : Out := retire (baseCat 0x4C) s (s.setReg .c s.h)

/-- `LD C L`, 4D: R221. -/
def execLdCL (s : State) : Out := retire (baseCat 0x4D) s (s.setReg .c s.l)

/-- `LD C (HL)`, 4E: R223. -/
def execLdCAtHl (s : State) : Out := retire (baseCat 0x4E) s (s.setReg .c (s.read8 s.hl))

/-- `LD C A`, 4F: R221. -/
def execLdCA (s : State) : Out := retire (baseCat 0x4F) s (s.setReg .c s.a)

/-- `LD D B`, 50: R221. -/
def execLdDB (s : State) : Out := retire (baseCat 0x50) s (s.setReg .d s.b)

/-- `LD D C`, 51: R221. -/
def execLdDC (s : State) : Out := retire (baseCat 0x51) s (s.setReg .d s.c)

/-- `LD D D`, 52: R221. -/
def execLdDD (s : State) : Out := retire (baseCat 0x52) s (s.setReg .d s.d)

/-- `LD D E`, 53: R221. -/
def execLdDE (s : State) : Out := retire (baseCat 0x53) s (s.setReg .d s.e)

/-- `LD D H`, 54: R221. -/
def execLdDH (s : State) : Out := retire (baseCat 0x54) s (s.setReg .d s.h)

/-- `LD D L`, 55: R221. -/
def execLdDL (s : State) : Out := retire (baseCat 0x55) s (s.setReg .d s.l)

/-- `LD D (HL)`, 56: R223. -/
def execLdDAtHl (s : State) : Out := retire (baseCat 0x56) s (s.setReg .d (s.read8 s.hl))

/-- `LD D A`, 57: R221. -/
def execLdDA (s : State) : Out := retire (baseCat 0x57) s (s.setReg .d s.a)

/-- `LD E B`, 58: R221. -/
def execLdEB (s : State) : Out := retire (baseCat 0x58) s (s.setReg .e s.b)

/-- `LD E C`, 59: R221. -/
def execLdEC (s : State) : Out := retire (baseCat 0x59) s (s.setReg .e s.c)

/-- `LD E D`, 5A: R221. -/
def execLdED (s : State) : Out := retire (baseCat 0x5A) s (s.setReg .e s.d)

/-- `LD E E`, 5B: R221. -/
def execLdEE (s : State) : Out := retire (baseCat 0x5B) s (s.setReg .e s.e)

/-- `LD E H`, 5C: R221. -/
def execLdEH (s : State) : Out := retire (baseCat 0x5C) s (s.setReg .e s.h)

/-- `LD E L`, 5D: R221. -/
def execLdEL (s : State) : Out := retire (baseCat 0x5D) s (s.setReg .e s.l)

/-- `LD E (HL)`, 5E: R223. -/
def execLdEAtHl (s : State) : Out := retire (baseCat 0x5E) s (s.setReg .e (s.read8 s.hl))

/-- `LD E A`, 5F: R221. -/
def execLdEA (s : State) : Out := retire (baseCat 0x5F) s (s.setReg .e s.a)

/-- `LD H B`, 60: R221. -/
def execLdHB (s : State) : Out := retire (baseCat 0x60) s (s.setReg .h s.b)

/-- `LD H C`, 61: R221. -/
def execLdHC (s : State) : Out := retire (baseCat 0x61) s (s.setReg .h s.c)

/-- `LD H D`, 62: R221. -/
def execLdHD (s : State) : Out := retire (baseCat 0x62) s (s.setReg .h s.d)

/-- `LD H E`, 63: R221. -/
def execLdHE (s : State) : Out := retire (baseCat 0x63) s (s.setReg .h s.e)

/-- `LD H H`, 64: R221. -/
def execLdHH (s : State) : Out := retire (baseCat 0x64) s (s.setReg .h s.h)

/-- `LD H L`, 65: R221. -/
def execLdHL (s : State) : Out := retire (baseCat 0x65) s (s.setReg .h s.l)

/-- `LD H (HL)`, 66: R223. -/
def execLdHAtHl (s : State) : Out := retire (baseCat 0x66) s (s.setReg .h (s.read8 s.hl))

/-- `LD H A`, 67: R221. -/
def execLdHA (s : State) : Out := retire (baseCat 0x67) s (s.setReg .h s.a)

/-- `LD L B`, 68: R221. -/
def execLdLB (s : State) : Out := retire (baseCat 0x68) s (s.setReg .l s.b)

/-- `LD L C`, 69: R221. -/
def execLdLC (s : State) : Out := retire (baseCat 0x69) s (s.setReg .l s.c)

/-- `LD L D`, 6A: R221. -/
def execLdLD (s : State) : Out := retire (baseCat 0x6A) s (s.setReg .l s.d)

/-- `LD L E`, 6B: R221. -/
def execLdLE (s : State) : Out := retire (baseCat 0x6B) s (s.setReg .l s.e)

/-- `LD L H`, 6C: R221. -/
def execLdLH (s : State) : Out := retire (baseCat 0x6C) s (s.setReg .l s.h)

/-- `LD L L`, 6D: R221. -/
def execLdLL (s : State) : Out := retire (baseCat 0x6D) s (s.setReg .l s.l)

/-- `LD L (HL)`, 6E: R223. -/
def execLdLAtHl (s : State) : Out := retire (baseCat 0x6E) s (s.setReg .l (s.read8 s.hl))

/-- `LD L A`, 6F: R221. -/
def execLdLA (s : State) : Out := retire (baseCat 0x6F) s (s.setReg .l s.a)

/-- `LD (HL) B`, 70: R224. -/
def execLdAtHlB (s : State) : Out := retireStore (baseCat 0x70) s (s.store8 s.hl s.b)

/-- `LD (HL) C`, 71: R224. -/
def execLdAtHlC (s : State) : Out := retireStore (baseCat 0x71) s (s.store8 s.hl s.c)

/-- `LD (HL) D`, 72: R224. -/
def execLdAtHlD (s : State) : Out := retireStore (baseCat 0x72) s (s.store8 s.hl s.d)

/-- `LD (HL) E`, 73: R224. -/
def execLdAtHlE (s : State) : Out := retireStore (baseCat 0x73) s (s.store8 s.hl s.e)

/-- `LD (HL) H`, 74: R224. -/
def execLdAtHlH (s : State) : Out := retireStore (baseCat 0x74) s (s.store8 s.hl s.h)

/-- `LD (HL) L`, 75: R224. -/
def execLdAtHlL (s : State) : Out := retireStore (baseCat 0x75) s (s.store8 s.hl s.l)

/-- `LD (HL) A`, 77: R224. -/
def execLdAtHlA (s : State) : Out := retireStore (baseCat 0x77) s (s.store8 s.hl s.a)

/-- `LD A B`, 78: R221. -/
def execLdAB (s : State) : Out := retire (baseCat 0x78) s (s.setReg .a s.b)

/-- `LD A C`, 79: R221. -/
def execLdAC (s : State) : Out := retire (baseCat 0x79) s (s.setReg .a s.c)

/-- `LD A D`, 7A: R221. -/
def execLdAD (s : State) : Out := retire (baseCat 0x7A) s (s.setReg .a s.d)

/-- `LD A E`, 7B: R221. -/
def execLdAE (s : State) : Out := retire (baseCat 0x7B) s (s.setReg .a s.e)

/-- `LD A H`, 7C: R221. -/
def execLdAH (s : State) : Out := retire (baseCat 0x7C) s (s.setReg .a s.h)

/-- `LD A L`, 7D: R221. -/
def execLdAL (s : State) : Out := retire (baseCat 0x7D) s (s.setReg .a s.l)

/-- `LD A (HL)`, 7E: R223. -/
def execLdAAtHl (s : State) : Out := retire (baseCat 0x7E) s (s.setReg .a (s.read8 s.hl))

/-- `LD A A`, 7F: R221. -/
def execLdAA (s : State) : Out := retire (baseCat 0x7F) s (s.setReg .a s.a)

/-- `LDH (a8) A`, E0: R232. -/
def execLdhAtA8A (n : Byte) (s : State) : Out := retireStore (baseCat 0xE0) s (s.store8 (highPage n) s.a)

/-- `LD (C) A`, E2: R234. -/
def execLdAtCA (s : State) : Out := retireStore (baseCat 0xE2) s (s.store8 (highPage s.c) s.a)

/-- `LD (a16) A`, EA: R231. -/
def execLdAtA16A (n : Word) (s : State) : Out := retireStore (baseCat 0xEA) s (s.store8 n s.a)

/-- `LDH A (a8)`, F0: R233. -/
def execLdhAAtA8 (n : Byte) (s : State) : Out := retire (baseCat 0xF0) s (s.setReg .a (s.read8 (highPage n)))

/-- `LD A (C)`, F2: R235. -/
def execLdAAtC (s : State) : Out := retire (baseCat 0xF2) s (s.setReg .a (s.read8 (highPage s.c)))

/-- `LD HL SP+r8`, F8: R243. -/
def execLdHlSpR8 (n : Byte) (s : State) : Out := retire (baseCat 0xF8) s (loadHlOffset s n)

/-- `LD SP HL`, F9: R242. -/
def execLdSpHl (s : State) : Out := retire (baseCat 0xF9) s (s.setPair .sp s.hl)

/-- `LD A (a16)`, FA: R230. -/
def execLdAAtA16 (n : Word) (s : State) : Out := retire (baseCat 0xFA) s (s.setReg .a (s.read8 n))

end Sys2Proof.Machine
end

