-- ==== Sys2Proof/Machine/Stack.lean ====
section
/-! DEFINITION. Stack instructions: 8 base entries (43_stack.md R301 to R303). -/

namespace Sys2Proof.Machine

/-- `POP BC`, C1: R302. -/
def execPopBc (s : State) : Out := retire (baseCat 0xC1) s (s.popped.setStackPair .bc s.top16)

/-- `PUSH BC`, C5: R301. -/
def execPushBc (s : State) : Out := retireStore (baseCat 0xC5) s (s.push16 s.bc)

/-- `POP DE`, D1: R302. -/
def execPopDe (s : State) : Out := retire (baseCat 0xD1) s (s.popped.setStackPair .de s.top16)

/-- `PUSH DE`, D5: R301. -/
def execPushDe (s : State) : Out := retireStore (baseCat 0xD5) s (s.push16 s.de)

/-- `POP HL`, E1: R302. -/
def execPopHl (s : State) : Out := retire (baseCat 0xE1) s (s.popped.setStackPair .hl s.top16)

/-- `PUSH HL`, E5: R301. -/
def execPushHl (s : State) : Out := retireStore (baseCat 0xE5) s (s.push16 s.hl)

/-- `POP AF`, F1: R303. -/
def execPopAf (s : State) : Out := retire (baseCat 0xF1) s (s.popped.setStackPair .af s.top16)

/-- `PUSH AF`, F5: R301. -/
def execPushAf (s : State) : Out := retireStore (baseCat 0xF5) s (s.push16 s.af)

end Sys2Proof.Machine
end

