-- ==== Sys2Proof/Machine/System.lean ====
section
/-! DEFINITION. System instructions and the base slots that are no instruction: 17 base entries (45_system.md R340 to R346). -/

namespace Sys2Proof.Machine

/-- `NOP`, 00: R340. -/
def execNop (s : State) : Out := retire (baseCat 0x00) s s

/-- `STOP 0`, 10: R341. -/
def execStop0 (s : State) : Out := retire (baseCat 0x10) s s

/-- `HALT`, 76: R342. -/
def execHalt (s : State) : Out := retire (baseCat 0x76) s s

/-- `PREFIX CB`, CB: R345. -/
def execPrefixCb (_s : State) : Out := .refused .prefixSlot

/-- `ILLEGAL_D3`, D3: R346. -/
def execIllegalD3 (s : State) : Out := raiseIllegal (baseCat 0xD3) s

/-- `ILLEGAL_DB`, DB: R346. -/
def execIllegalDB (s : State) : Out := raiseIllegal (baseCat 0xDB) s

/-- `ILLEGAL_DD`, DD: R346. -/
def execIllegalDD (s : State) : Out := raiseIllegal (baseCat 0xDD) s

/-- `ILLEGAL_E3`, E3: R346. -/
def execIllegalE3 (s : State) : Out := raiseIllegal (baseCat 0xE3) s

/-- `ILLEGAL_E4`, E4: R346. -/
def execIllegalE4 (s : State) : Out := raiseIllegal (baseCat 0xE4) s

/-- `ILLEGAL_EB`, EB: R346. -/
def execIllegalEB (s : State) : Out := raiseIllegal (baseCat 0xEB) s

/-- `ILLEGAL_EC`, EC: R346. -/
def execIllegalEC (s : State) : Out := raiseIllegal (baseCat 0xEC) s

/-- `ILLEGAL_ED`, ED: R346. -/
def execIllegalED (s : State) : Out := raiseIllegal (baseCat 0xED) s

/-- `DI`, F3: R343. -/
def execDi (s : State) : Out := retire (baseCat 0xF3) s s

/-- `ILLEGAL_F4`, F4: R346. -/
def execIllegalF4 (s : State) : Out := raiseIllegal (baseCat 0xF4) s

/-- `EI`, FB: R344. -/
def execEi (s : State) : Out := retire (baseCat 0xFB) s s

/-- `ILLEGAL_FC`, FC: R346. -/
def execIllegalFC (s : State) : Out := raiseIllegal (baseCat 0xFC) s

/-- `ILLEGAL_FD`, FD: R346. -/
def execIllegalFD (s : State) : Out := raiseIllegal (baseCat 0xFD) s

end Sys2Proof.Machine
end

