-- ==== Sys2Proof/Machine/Fetch.lean ====
section
/-! DEFINITION. Fetching an instruction from memory, and placing one there (60_exceptions.md R361, 20_memory.md R77). -/

namespace Sys2Proof.Machine

/-- The memory source `Src(i) = Mem8(i)`, which never ends (30_encoding.md R100). -/
def State.source (s : State) : Source := fun i => some (s.mem8 i)

/-- `Decode(memory source, pc0)` (60_exceptions.md R361). -/
def fetch (s : State) : Except Err (Instr × Nat) := decode s.extAbsent s.source s.pc.toNat

/-- Bytes written to consecutive positions from `i` on; positions do not wrap and those at or past N are left out. -/
def placeBytes (s : State) : Nat → List Byte → State
  | _, [] => s
  | i, v :: rest =>
    placeBytes (if i < s.memSize then { s with mem := s.mem.write i v } else s) (i + 1) rest

/-- The bytes of an instruction placed where the next step fetches, the engine Running, `ERR` none, and N large enough to
hold them, at most 65536 (log 11). -/
def placeCode (s : State) (bytes : List Byte) : State :=
  placeBytes
    { s with
      st := .running
      err := none
      memSize := max s.memSize (min (s.pc.toNat + bytes.length) Config.memSizeBound) }
    s.pc.toNat bytes

end Sys2Proof.Machine
end

