-- ==== Sys2Proof/Machine/Step.lean ====
section
/-! DEFINITION. One step of the engine (60_exceptions.md R361, R362, R364) and the host's way to place the next instruction. -/

namespace Sys2Proof.Machine

/-- `step()` (60_exceptions.md R362): nothing when not Running (R364), `MemoryOverrun` before any decode (R371), the decoder's
error (R372), else the instruction's meaning. -/
def step (s : State) : Host.Outcome State Fault Refusal :=
  match s.st with
  | .running =>
    if s.memSize ≤ s.pc.toNat then .next (s.fail (.memoryOverrun s.pc))
    else
      match fetch s with
      | .error e => .next (s.fail e)
      | .ok (i, _) => exec i s
  | _ => .next s

/-- `s` ready to run the instruction whose table bits are `w` (log 11): its three bytes, zeros included, at pc, pc + 1 and
pc + 2, the engine Running, and the memory long enough to hold them (at most 65536 bytes). -/
def State.withFetchWord (s : State) (nbits w : Nat) : State := placeCode s (tableBytes nbits w)

end Sys2Proof.Machine
end

