-- ==== Sys2Proof/Machine/Run.lean ====
section
/-! DEFINITION. `run()`: iterated `step()` with fuel (60_exceptions.md R365, R367). -/

namespace Sys2Proof.Machine

/-- What `run()` returns (60_exceptions.md R367). -/
inductive RunResult where
  | success
  | error (e : Option Err)
deriving DecidableEq, Repr

/-- `run()` with at most `fuel` steps: the result and the final state, or `none` when the fuel runs out first. The spec's
`run()` has no step limit (60_exceptions.md R365; log 13). -/
def run : Nat → State → Option (RunResult × State)
  | fuel, s =>
    match s.st with
    | .halted => some (.success, s)
    | .failed => some (.error s.err, s)
    | .running =>
      match fuel with
      | 0 => none
      | k + 1 =>
        match step s with
        | .next t => run k t
        | .fault _ => none
        | .refused _ => none

end Sys2Proof.Machine
end

