-- ==== Sys2Proof/Safety.lean ====
section
/-! DEFINITION. The terms claims use: the invariant of the machine, the ends of a run, the operand of an ALU instruction, and the
bytes an instruction stores to. -/

namespace Sys2Proof.Machine

/-- The memory list is canonical and names only cells of `[0, N)`, and N is in its range (20_memory.md R60, 00_scope.md R6). -/
structure State.MemOk (s : State) : Prop where
  canonical : s.mem.wf
  inRange : ∀ cell ∈ s.mem, cell.1 < s.memSize
  sizeBound : s.memSize ≤ Config.memSizeBound

/-- The machine's invariant: memory as above, `F[3:0]` zero (10_state.md R28), and an error record exactly in `Failed`
(10_state.md R36). -/
structure State.Inv (s : State) : Prop where
  memOk : s.MemOk
  flagsLow : s.f &&& 0x0F = 0
  errIffFailed : s.err.isSome = true ↔ s.st = .failed

/-- `n` steps lead from one state to another (60_exceptions.md R365). -/
inductive Steps : Nat → State → State → Prop where
  | refl (s : State) : Steps 0 s s
  | cons {n : Nat} {s t u : State} : step s = .next t → Steps n t u → Steps (n + 1) s u

/-- The value of an ALU source operand (40_arith_logic.md R151 to R174). -/
def State.operand (s : State) : Src → Byte
  | .reg r => s.reg r
  | .atHl => s.mem8 s.hl.toNat
  | .imm n => n

/-- The two addresses a push writes (43_stack.md R300). -/
def State.pushAddrs (s : State) : List Word := [s.sp - 1, s.sp - 2]

end Sys2Proof.Machine

namespace Sys2Proof

open Sys2Proof.Machine

/-- The length of an ALU instruction by its source (40_arith_logic.md R151 to R174). -/
def Src.len : Src → Word
  | .reg _ => 1
  | .atHl => 1
  | .imm _ => 2

/-- The cycle cost of an ALU instruction by its source (40_arith_logic.md R151 to R174). -/
def Src.cost : Src → BitVec 64
  | .reg _ => 4
  | .atHl => 8
  | .imm _ => 8

/-- The bytes of the ALU instruction number `y` by its source: `10yyyzzz`, `10yyy110`, or `11yyy110` and the operand
(40_arith_logic.md R151 to R174). -/
def Src.bytes (y : Nat) : Src → List Byte
  | .reg r => [BitVec.ofNat 8 (0x80 + 8 * y + r.number)]
  | .atHl => [BitVec.ofNat 8 (0x86 + 8 * y)]
  | .imm n => [BitVec.ofNat 8 (0xC6 + 8 * y), n]

/-- The addresses an instruction stores to, in a given state: the write rows of 20_memory.md R69. -/
def Instr.storesAt (i : Instr) (s : State) : List Word :=
  match i with
  | .ldAtHlB | .ldAtHlC | .ldAtHlD | .ldAtHlE | .ldAtHlH | .ldAtHlL | .ldAtHlA => [s.hl]
  | .ldAtHlD8 _ | .incAtHl | .decAtHl | .ldAtHlIncA | .ldAtHlDecA => [s.hl]
  | .rlcAtHl | .rrcAtHl | .rlAtHl | .rrAtHl | .slaAtHl | .sraAtHl | .swapAtHl | .srlAtHl => [s.hl]
  | .res0AtHl | .res1AtHl | .res2AtHl | .res3AtHl | .res4AtHl | .res5AtHl | .res6AtHl | .res7AtHl => [s.hl]
  | .set0AtHl | .set1AtHl | .set2AtHl | .set3AtHl | .set4AtHl | .set5AtHl | .set6AtHl | .set7AtHl => [s.hl]
  | .ldAtBcA => [s.bc]
  | .ldAtDeA => [s.de]
  | .ldAtA16A n => [n]
  | .ldhAtA8A n => [highPage n]
  | .ldAtCA => [highPage s.c]
  | .ldAtA16Sp n => [n, n + 1]
  | .pushBc | .pushDe | .pushHl | .pushAf => s.pushAddrs
  | .callA16 _ => s.pushAddrs
  | .callNzA16 _ => if s.cond .nz then s.pushAddrs else []
  | .callZA16 _ => if s.cond .z then s.pushAddrs else []
  | .callNcA16 _ => if s.cond .nc then s.pushAddrs else []
  | .callCA16 _ => if s.cond .c then s.pushAddrs else []
  | .rst00 | .rst08 | .rst10 | .rst18 | .rst20 | .rst28 | .rst30 | .rst38 => s.pushAddrs
  | _ => []

end Sys2Proof
end

