-- ==== Sys2Proof/Certificates/Slice0/Obligations.lean ====
section
/-! DEFINITION. The statements for the provers. Each is about every state, every operand and every value of the construction
parameters (N = `memSize`, `EXT_ABSENT` = `extAbsent`, 00_scope.md R6) unless it says otherwise. A next state written
`{ s with … }` is also the frame: everything it does not name is unchanged. In such a state the advance of pc and of CYC is
60_exceptions.md R362; that pc wraps is the spec's own decision D9 (log 17), that CYC exists its D15 (log 8), and that an
operand's low byte comes first its D4 (log 15); no rule is cited for these three. -/

open Sys2Proof Sys2Proof.Machine

/-! ## The machine as a whole -/

/-- Reset gives the values of 10_state.md R41 for every memory length, every EXT_ABSENT and every image of that length. The
values of B to L, F and SP are the spec's own decision D6. -/
def Obligations.ResetLeavesTheStatedValues : Prop :=
  ∀ (n : Nat) (absent image : List Byte), image.length = n →
    let s := State.resetWith n absent image
    (∀ r, s.reg r = 0) ∧ s.f = 0 ∧ s.sp = 0 ∧ s.pc = 0 ∧ s.st = .running ∧ s.err = none ∧ s.cyc = 0 ∧
      (∀ i, s.mem8 i = image.getD i 0)

/-- The invariant holds after every reset with MEM_SIZE in its range, `State.reset` among them. -/
def Obligations.InvariantHoldsAtReset : Prop :=
  (∀ (n : Nat) (absent image : List Byte), n ≤ 65536 → (State.resetWith n absent image).Inv) ∧ State.reset.Inv

/-- Every step keeps the invariant: memory canonical and inside `[0, N)`, `F[3:0] = 0` (10_state.md R28), `ERR` exactly in
`Failed` (R36). -/
def Obligations.StepKeepsTheInvariant : Prop :=
  ∀ s t : State, s.Inv → step s = .next t → t.Inv

/-- `step()` is total: every state has exactly one successor (60_exceptions.md R385). -/
def Obligations.StepHasExactlyOneSuccessor : Prop :=
  ∀ s : State, ∃! t, step s = .next t

/-- A step runs the decoded instruction: whatever the decoder reads at pc, and whenever the bytes at pc are the encoding of a
well-formed instruction, a step of a Running engine with pc below N is `exec` of that instruction. -/
def Obligations.StepRunsTheDecodedInstruction : Prop :=
  (∀ (s : State) (i : Instr) (n : Nat), s.st = .running → s.pc.toNat < s.memSize → fetch s = .ok (i, n) →
    step s = exec i s) ∧
  (∀ (s : State) (i : Instr), s.st = .running → s.pc.toNat < s.memSize → i.wellFormed s.extAbsent = true →
    (∀ k, k < (encode i).length → some (s.mem8 (s.pc.toNat + k)) = (encode i)[k]?) → step s = exec i s)

/-- A Running engine whose pc is at or past N fails with `MemoryOverrun(pc)`, before any decode (60_exceptions.md R371; the
time of the test is the spec's decision D14). -/
def Obligations.OverrunFailsTheRun : Prop :=
  ∀ s : State, s.st = .running → s.memSize ≤ s.pc.toNat →
    step s = .next { s with st := .failed, err := some (.memoryOverrun s.pc) }

/-- The two causes of `UnrecognizedOpcode` in the engine (60_exceptions.md R372): an absent extended slot at pc, and a byte
of class `illegal` at pc. -/
def Obligations.UnrecognizedOpcodeAbortsTheRun : Prop :=
  (∀ (s : State) (b : Byte), s.st = .running → s.pc.toNat < s.memSize → s.mem8 s.pc.toNat = 0xCB →
    s.mem8 (s.pc.toNat + 1) = b → b ∈ s.extAbsent →
    step s = .next { s with st := .failed, err := some (.unrecognizedOpcode [0xCB, b] s.pc.toNat) }) ∧
  (∀ (s : State) (h : Hole), s.st = .running → s.pc.toNat < s.memSize → s.mem8 s.pc.toNat = h.byte →
    step s = .next { s with st := .failed, err := some (.unrecognizedOpcode [h.byte] s.pc.toNat) })

/-- The effect of each of the eleven `ILLEGAL_xx` (45_system.md R346, the spec's decision D1): the engine fails with
`UnrecognizedOpcode([xx], pc0)` and nothing else changes; the byte alone encodes it. -/
def Obligations.IllegalBytesFailTheRun : Prop :=
  ∀ (h : Hole) (s : State),
    exec (.illegal h) s = .next { s with st := .failed, err := some (.unrecognizedOpcode [h.byte] s.pc.toNat) } ∧
      encode (.illegal h) = [h.byte] ∧ (Instr.illegal h).wellFormed s.extAbsent = true

/-- `PREFIX CB` stops by name: it is no well-formed instruction and no decode of any source gives it (45_system.md R345,
30_encoding.md R110, 10_state.md R33). -/
def Obligations.PrefixSlotIsNoInstruction : Prop :=
  (∀ s : State, exec .prefixCb s = .refused .prefixSlot) ∧
  (∀ absent, Instr.prefixCb.wellFormed absent = false) ∧
  (∀ (absent : List Byte) (src : Source) (pos n : Nat), decode absent src pos ≠ .ok (.prefixCb, n))

/-- `Halted` and `Failed` are terminal: a step changes nothing (60_exceptions.md R364, the spec's decision D11). -/
def Obligations.TerminalStatesAreAbsorbing : Prop :=
  ∀ s : State, s.st = .halted ∨ s.st = .failed → step s = .next s

/-- A step that ends a Running engine in `Failed` writes only `ST` and `ERR`; the error is `MemoryOverrun` of a pc past the
end, `UnrecognizedOpcode` at pc, or `StoreOutOfRange` of an address at or past N with `pc0` (60_exceptions.md R366, R371
to R373, R376). -/
def Obligations.FailedStepChangesOnlyStAndErr : Prop :=
  ∀ s t : State, s.st = .running → step s = .next t → t.st = .failed →
    ∃ e, t = { s with st := .failed, err := some e } ∧
      ((e = .memoryOverrun s.pc ∧ s.memSize ≤ s.pc.toNat) ∨
       (∃ bytes, e = .unrecognizedOpcode bytes s.pc.toNat) ∨
       (∃ x : Word, e = .storeOutOfRange x s.pc ∧ s.memSize ≤ x.toNat))

/-- A Running engine reaches `Halted` in one step exactly when the byte at pc is 0x76, HALT (10_state.md R35: "reached only
via an explicit halt instruction"). -/
def Obligations.HaltedOnlyThroughHalt : Prop :=
  ∀ s t : State, s.st = .running → step s = .next t →
    (t.st = .halted ↔ s.pc.toNat < s.memSize ∧ s.mem8 s.pc.toNat = 0x76)

/-- The length of memory never changes, the construction parameters are never written, and no cell at or past N is ever
written (20_memory.md R60, R63). -/
def Obligations.OnlyCellsBelowNAreWritten : Prop :=
  ∀ s t : State, step s = .next t →
    t.memSize = s.memSize ∧ t.extAbsent = s.extAbsent ∧ ∀ i, s.memSize ≤ i → t.mem.read i = s.mem.read i

/-- The frame of memory, for every instruction: every byte outside the addresses the instruction stores to (the write rows of
20_memory.md R69, none for the other forms) reads as before, and an instruction that stores nothing leaves memory as it is. -/
def Obligations.MemoryFrameOfEveryInstruction : Prop :=
  ∀ (i : Instr) (s t : State), exec i s = .next t →
    (∀ k, (∀ x ∈ i.storesAt s, x.toNat ≠ k) → t.mem8 k = s.mem8 k) ∧ (i.storesAt s = [] → t.mem = s.mem)

/-- The flag column of the catalog is obeyed by every instruction: a flag outside `fmask` never changes, and when the
instruction completes, a flag marked 0 is cleared and a flag marked 1 is set (10_state.md R29, 30_encoding.md R124). -/
def Obligations.FlagColumnIsObeyed : Prop :=
  let ok := fun (e : FlagEffect) (old new : Bool) (done : Bool) =>
    (e = .keep → new = old) ∧ (done = true → e = .clear → new = false) ∧ (done = true → e = .set → new = true)
  ∀ (i : Instr) (s t : State), s.st = .running → exec i s = .next t →
    let done := t.st != .failed
    ok i.desc.flags.z s.zf t.zf done ∧ ok i.desc.flags.n s.nf t.nf done ∧
      ok i.desc.flags.h s.hf t.hf done ∧ ok i.desc.flags.c s.cf t.cf done

/-- After a completed instruction that is no control transfer, pc is `(pc0 + len) mod 65536`; after HALT it is pc0
(60_exceptions.md R363; the wrap is the spec's decision D9). -/
def Obligations.ProgramCounterAdvance : Prop :=
  ∀ (i : Instr) (s t : State), s.st = .running → exec i s = .next t → t.st ≠ .failed → i.desc.ct = false →
    t.pc = if i.desc.cls = .halt then s.pc else BitVec.ofNat 16 (s.pc.toNat + i.desc.len)

/-- CYC grows by the descriptor's cost at every completed instruction, by `cycles_nt` only when a conditional transfer falls
through, and not at all when the step fails (60_exceptions.md R362, R376, R382; decisions D15, D16). -/
def Obligations.CycleAccounting : Prop :=
  ∀ (i : Instr) (s t : State), s.st = .running → exec i s = .next t →
    (t.st = .failed ∧ t.cyc = s.cyc) ∨
    (t.st ≠ .failed ∧ t.cyc = s.cyc + BitVec.ofNat 64 i.desc.cycles) ∨
    (i.desc.ct = true ∧
      t = { s with pc := s.pc + BitVec.ofNat 16 i.desc.len, cyc := s.cyc + BitVec.ofNat 64 i.desc.cyclesNt })

/-- Nothing reads CYC: two states that differ only in CYC step to states that differ only in CYC, by the same amount
(70_reset_and_hazards.md R412). -/
def Obligations.NothingReadsCyc : Prop :=
  ∀ (s t : State) (c : BitVec 64), step s = .next t →
    step { s with cyc := c } = .next { t with cyc := c + (t.cyc - s.cyc) }

/-- `run()` with fuel is iterated `step()`: it answers exactly when some number of steps within the fuel reaches a terminal
state, with success exactly for `Halted` and the error record for `Failed` (60_exceptions.md R365, R367). -/
def Obligations.RunIsIteratedStep : Prop :=
  ∀ (k : Nat) (s u : State) (r : RunResult),
    run k s = some (r, u) ↔
      ∃ n, n ≤ k ∧ Steps n s u ∧ (∀ m v, m < n → Steps m s v → v.st = .running) ∧
        ((u.st = .halted ∧ r = .success) ∨ (u.st = .failed ∧ r = .error u.err))

/-! ## Catalog, decoder, encoder -/

/-- The catalog invariants (10_state.md R31 (a) to (e)). -/
def Obligations.CatalogInvariants : Prop :=
  ∀ (absent : List Byte) (ext : Bool) (op : Byte),
    let d := lookup absent ext op
    (ext = false → d.present = true) ∧ (ext = true → (d.present = false ↔ op ∈ absent)) ∧
      0 < d.len ∧ d.len ≤ 3 ∧ d.len = 1 + ext.toNat + d.k0.bytes + d.k1.bytes ∧ d.op = op ∧ d.ext = ext ∧
      d.k1 = .none ∧ (ext = true → d.k0 = .none ∧ d.len = 2)

/-- Decoding the encoding of a well-formed instruction gives it back with its declared length (30_encoding.md R116), for every
instruction and every operand value. -/
def Obligations.DecodeOfEncode : Prop :=
  ∀ (absent : List Byte) (i : Instr), i.wellFormed absent = true →
    decode absent (streamSource (encode i)) 0 = .ok (i, i.desc.len)

/-- Encoding what a complete encoding decodes to gives its bytes back, for one instruction and for a stream decoded to its end
by stream iteration (30_encoding.md R117). -/
def Obligations.EncodeOfDecode : Prop :=
  (∀ (absent bs : List Byte) (i : Instr), decode absent (streamSource bs) 0 = .ok (i, bs.length) → encode i = bs) ∧
  (∀ (absent bs : List Byte) (is : List Instr), decodeStream absent bs = .ok (is, bs.length) →
    (is.map encode).flatten = bs)

/-- Every sequence of well-formed instructions, encoded and concatenated, decodes back by stream iteration, ending at the end
of the stream (30_encoding.md R109, R116). -/
def Obligations.StreamsOfEncodingsDecodeBack : Prop :=
  ∀ (absent : List Byte) (is : List Instr), (∀ i ∈ is, i.wellFormed absent = true) →
    decodeStream absent (is.map encode).flatten = .ok (is, (is.map encode).flatten.length)

/-- The Instruction struct (10_state.md R33) and the encoder's refusal (30_encoding.md R112, the spec's decision D22): the
encoder answers exactly on well-formed structs, with a number of bytes that is the declared length, and decoding gives the
struct back. -/
def Obligations.StructRoundTrip : Prop :=
  ∀ (absent : List Byte) (x : RawInstr),
    (x.wellFormed absent = false → encodeRaw absent x = none) ∧
    (x.wellFormed absent = true → ∃ bs, encodeRaw absent x = some bs ∧ bs.length = x.desc.len ∧
      decodeRaw absent (streamSource bs) 0 = .ok (x, x.desc.len) ∧ x.toInstr.toRaw = x)

/-- With EXT_ABSENT empty the decoder over memory never fails, reads 1 to 3 bytes, and gives a well-formed instruction
(30_encoding.md R100, R107, R108). -/
def Obligations.MemoryDecodeNeverFails : Prop :=
  ∀ s : State, s.extAbsent = [] →
    ∃ i n, fetch s = .ok (i, n) ∧ i.wellFormed [] = true ∧ n = i.desc.len ∧ 1 ≤ n ∧ n ≤ 3

/-- When each error of the decoder comes, over any source (30_encoding.md R105, R106, R107, R108; the second case of
`StreamEnded` is the spec's decision D12). That `TruncatedOperand` carries the selector bytes beside the position is the model's
reading of 60_exceptions.md R370 (log 12, DEDUCED): 30_encoding.md R101 and R108 name the position alone. -/
def Obligations.DecoderErrorOutcomes : Prop :=
  ∀ (absent : List Byte) (src : Source) (pos p : Nat) (bytes : List Byte),
    (decode absent src pos = .error (.streamEnded p) ↔
      p = pos ∧ (src pos = none ∨ (src pos = some 0xCB ∧ src (pos + 1) = none))) ∧
    (decode absent src pos = .error (.unrecognizedOpcode bytes p) ↔
      p = pos ∧ src pos = some 0xCB ∧ ∃ b ∈ absent, src (pos + 1) = some b ∧ bytes = [0xCB, b]) ∧
    (decode absent src pos = .error (.truncatedOperand p bytes) ↔
      p = pos ∧ ∃ op, op ≠ 0xCB ∧ src pos = some op ∧ bytes = [op] ∧
        ∃ k, k < (baseCat op).k0.bytes ∧ src (pos + 1 + k) = none)

/-- Words written out from the spec's own nine encodings (00_scope.md R3) decode and render as the spec says. The last two clauses read
two of them as words of the opcode table, which is the model's reading of the table's numbering (log 10, DEDUCED). -/
def Obligations.DocumentEncodingsDecode : Prop :=
  decodeStream [] [0x10] = .ok ([.stop0], 1) ∧ Instr.stop0.render = "STOP 0" ∧
  decodeStream [] [0x81, 0x06, 0xAA] = .ok ([.addAC, .ldBD8 0xAA], 3) ∧
  Instr.addAC.render = "ADD A C" ∧ (Instr.ldBD8 0xAA).render = "LD B AA" ∧
  decodeStream [] [0xCB, 0x01] = .ok ([.rlcC], 2) ∧ Instr.rlcC.render = "RLC C" ∧
  decodeStream [] [0xF8, 0x81] = .ok ([.ldHlSpR8 0x81], 2) ∧ (Instr.ldHlSpR8 0x81).render = "LD HL SP+-7F" ∧
  decodeStream [] [0xC6, 0xFF, 0x76] = .ok ([.addAD8 0xFF, .halt], 3) ∧
  decodeStream [] [0xC0] = .ok ([.retNz], 1) ∧ Instr.retNz.render = "RET NZ" ∧
  decodeTableWord 16 0xCB01 = some .rlcC ∧ decodeTableWord 8 0x06 = some (.ldBD8 0)

/-- The two opcode maps in prose, line by line (30_encoding.md R98, R99): the bytes of every instruction by its fields; every first
byte but the prefix, and every extended selector, is assigned to exactly one line. The
order of a 16-bit operand's bytes after the opcode is the spec's own decision D4 (log 15; 30_encoding.md R90, R111). -/
def Obligations.OpcodeMaps : Prop :=
  let op := fun (x y z : Nat) => BitVec.ofNat 8 (64 * x + 8 * y + z)
  let q := fun (x p q z : Nat) => BitVec.ofNat 8 (64 * x + 16 * p + 8 * q + z)
  ∀ (r r' : Reg8) (p : Pair) (sp : StackPair) (cc : Cond) (a : Alu) (o : Rot) (n : Byte) (w : Word) (t : Fin 8),
    -- x = 0
    encode .nop = [op 0 0 0] ∧ encode (.ldAtA16Sp w) = [op 0 1 0, loByte w, hiByte w] ∧ encode .stop0 = [op 0 2 0] ∧
    encode (.jrR8 n) = [op 0 3 0, n] ∧ encode (.jrCond cc n) = [op 0 (4 + cc.number) 0, n] ∧
    encode (.ldPair p w) = [q 0 p.number 0 1, loByte w, hiByte w] ∧ encode (.addHl p) = [q 0 p.number 1 1] ∧
    encode .ldAtBcA = [q 0 0 0 2] ∧ encode .ldAtDeA = [q 0 1 0 2] ∧ encode .ldAtHlIncA = [q 0 2 0 2] ∧
    encode .ldAtHlDecA = [q 0 3 0 2] ∧ encode .ldAAtBc = [q 0 0 1 2] ∧ encode .ldAAtDe = [q 0 1 1 2] ∧
    encode .ldAAtHlInc = [q 0 2 1 2] ∧ encode .ldAAtHlDec = [q 0 3 1 2] ∧
    encode (.incPair p) = [q 0 p.number 0 3] ∧ encode (.decPair p) = [q 0 p.number 1 3] ∧
    encode (.incReg r) = [op 0 r.number 4] ∧ encode .incAtHl = [op 0 6 4] ∧
    encode (.decReg r) = [op 0 r.number 5] ∧ encode .decAtHl = [op 0 6 5] ∧
    encode (.ldImm r n) = [op 0 r.number 6, n] ∧ encode (.ldAtHlD8 n) = [op 0 6 6, n] ∧
    encode .rlcAcc = [op 0 0 7] ∧ encode .rrcAcc = [op 0 1 7] ∧ encode .rlAcc = [op 0 2 7] ∧ encode .rrAcc = [op 0 3 7] ∧
    encode .daa = [op 0 4 7] ∧ encode .cplAcc = [op 0 5 7] ∧ encode .scf = [op 0 6 7] ∧ encode .ccf = [op 0 7 7] ∧
    -- x = 1
    encode (.ldReg r r') = [op 1 r.number r'.number] ∧ encode (.ldFromHl r) = [op 1 r.number 6] ∧
    encode (.ldToHl r) = [op 1 6 r.number] ∧ encode .halt = [op 1 6 6] ∧
    -- x = 2
    encode (.alu a (.reg r)) = [op 2 a.number r.number] ∧ encode (.alu a .atHl) = [op 2 a.number 6] ∧
    -- x = 3
    encode (.retCond cc) = [op 3 cc.number 0] ∧ encode (.ldhAtA8A n) = [op 3 4 0, n] ∧ encode (.addSpR8 n) = [op 3 5 0, n] ∧
    encode (.ldhAAtA8 n) = [op 3 6 0, n] ∧ encode (.ldHlSpR8 n) = [op 3 7 0, n] ∧
    encode (.pop sp) = [q 3 sp.number 0 1] ∧ encode .ret = [q 3 0 1 1] ∧ encode .reti = [q 3 1 1 1] ∧
    encode .jpAtHl = [q 3 2 1 1] ∧ encode .ldSpHl = [q 3 3 1 1] ∧
    encode (.jpCond cc w) = [op 3 cc.number 2, loByte w, hiByte w] ∧ encode .ldAtCA = [op 3 4 2] ∧
    encode (.ldAtA16A w) = [op 3 5 2, loByte w, hiByte w] ∧ encode .ldAAtC = [op 3 6 2] ∧
    encode (.ldAAtA16 w) = [op 3 7 2, loByte w, hiByte w] ∧
    encode (.jpA16 w) = [op 3 0 3, loByte w, hiByte w] ∧ encode .di = [op 3 6 3] ∧ encode .ei = [op 3 7 3] ∧
    encode (.callCond cc w) = [op 3 cc.number 4, loByte w, hiByte w] ∧
    encode (.push sp) = [q 3 sp.number 0 5] ∧ encode (.callA16 w) = [q 3 0 1 5, loByte w, hiByte w] ∧
    encode (.alu a (.imm n)) = [op 3 a.number 6, n] ∧ encode (.rst t) = [op 3 t.val 7] ∧
    (∀ h : Hole, encode (.illegal h) = [h.byte]) ∧
    -- the extended space
    encode (.rot o r) = [0xCB, op 0 o.number r.number] ∧ encode (.rotHl o) = [0xCB, op 0 o.number 6] ∧
    encode (.bit t r) = [0xCB, op 1 t.val r.number] ∧ encode (.bitHl t) = [0xCB, op 1 t.val 6] ∧
    encode (.res t r) = [0xCB, op 2 t.val r.number] ∧ encode (.resHl t) = [0xCB, op 2 t.val 6] ∧
    encode (.set t r) = [0xCB, op 3 t.val r.number] ∧ encode (.setHl t) = [0xCB, op 3 t.val 6] ∧
    -- every first byte but the prefix, and every extended selector, is one instruction and no two
    (∀ b : Byte, b ≠ 0xCB → ∃ i : Instr, i.wellFormed [] = true ∧ (encode i).head? = some b) ∧
    (∀ i j : Instr, i.wellFormed [] = true → j.wellFormed [] = true → (encode i).head? = (encode j).head? →
      (encode i).head? ≠ some 0xCB → i.desc = j.desc) ∧
    (∀ b : Byte, ∃ i : Instr, encode i = [0xCB, b] ∧ ∀ j : Instr, encode j = [0xCB, b] → j = i)

/-! ## Registers, flags, memory, stack -/

/-- The register file, the pair views and the named flags (10_state.md R21, R22, R23, R27): `reg` reads and `setReg` writes the field of
that name and nothing else; a pair is its two halves, high first, and writing one writes both halves and nothing else, SP its own
field; writing AF keeps only the high nibble of its low byte (R28, the spec's own decision D5); the tables `rp` and `rp2` name the
pairs; Zf, Nf, Hf, Cf are bits 7, 6, 5, 4 of F, and writing four flags writes `(Zf << 7) | (Nf << 6) | (Hf << 5) | (Cf << 4)` and
nothing else. -/
def Obligations.RegisterViewsAndFlags : Prop :=
  ∀ (s : State) (r r' : Reg8) (v : Byte) (w : Word) (z n h c : Bool),
    let hi := BitVec.ofNat 8 (w.toNat / 256)
    let lo := BitVec.ofNat 8 (w.toNat % 256)
    -- the register file
    s.reg .b = s.b ∧ s.reg .c = s.c ∧ s.reg .d = s.d ∧ s.reg .e = s.e ∧ s.reg .h = s.h ∧ s.reg .l = s.l ∧ s.reg .a = s.a ∧
    s.setReg .b v = { s with b := v } ∧ s.setReg .c v = { s with c := v } ∧ s.setReg .d v = { s with d := v } ∧
    s.setReg .e v = { s with e := v } ∧ s.setReg .h v = { s with h := v } ∧ s.setReg .l v = { s with l := v } ∧
    s.setReg .a v = { s with a := v } ∧
    ((s.setReg r v).reg r' = if r' = r then v else s.reg r') ∧
    -- the pairs
    s.bc.toNat = 256 * s.b.toNat + s.c.toNat ∧ s.de.toNat = 256 * s.d.toNat + s.e.toNat ∧
    s.hl.toNat = 256 * s.h.toNat + s.l.toNat ∧ s.af.toNat = 256 * s.a.toNat + s.f.toNat ∧
    s.setBc w = { s with b := hi, c := lo } ∧ s.setDe w = { s with d := hi, e := lo } ∧ s.setHl w = { s with h := hi, l := lo } ∧
    s.setAf w = { s with a := hi, f := BitVec.ofNat 8 (w.toNat % 256 / 16 * 16) } ∧
    (s.setBc w).bc = w ∧ (s.setDe w).de = w ∧ (s.setHl w).hl = w ∧ (s.setAf w).af = w &&& 0xFFF0 ∧
    -- tables rp and rp2
    s.pair .bc = s.bc ∧ s.pair .de = s.de ∧ s.pair .hl = s.hl ∧ s.pair .sp = s.sp ∧
    s.setPair .bc w = s.setBc w ∧ s.setPair .de w = s.setDe w ∧ s.setPair .hl w = s.setHl w ∧ s.setPair .sp w = { s with sp := w } ∧
    s.stackPair .bc = s.bc ∧ s.stackPair .de = s.de ∧ s.stackPair .hl = s.hl ∧ s.stackPair .af = s.af ∧
    s.setStackPair .bc w = s.setBc w ∧ s.setStackPair .de w = s.setDe w ∧ s.setStackPair .hl w = s.setHl w ∧
    s.setStackPair .af w = s.setAf w ∧
    -- the flags
    (s.zf = true ↔ 128 ≤ s.f.toNat) ∧ (s.nf = true ↔ 64 ≤ s.f.toNat % 128) ∧
    (s.hf = true ↔ 32 ≤ s.f.toNat % 64) ∧ (s.cf = true ↔ 16 ≤ s.f.toNat % 32) ∧
    (packFlags z n h c).toNat = 128 * z.toNat + 64 * n.toNat + 32 * h.toNat + 16 * c.toNat ∧
    s.setFlags z n h c = { s with f := packFlags z n h c }

/-- Bytes and words of memory (20_memory.md R61 to R65; decisions D4, D8, D9): a read at or past N gives 0x00; a byte store below
N reads back and changes no other byte, at or past N it raises; words are little-endian and their second address wraps;
a word store writes both bytes or, when one is out of range, none, with the first offending address of low and high. -/
def Obligations.MemoryReadAndWrite : Prop :=
  ∀ (s : State) (x v : Word) (n : Byte), s.MemOk →
    (∀ i, s.memSize ≤ i → s.mem8 i = 0) ∧
    (s.memSize ≤ x.toNat → s.store8 x n = .error x) ∧
    (x.toNat < s.memSize → ∃ t : State, s.store8 x n = .ok t ∧ t = { s with mem := t.mem } ∧ t.MemOk ∧
      ∀ i, t.mem8 i = if i = x.toNat then n else s.mem8 i) ∧
    s.read16 x = BitVec.ofNat 16 ((s.mem8 x.toNat).toNat + 256 * (s.mem8 ((x.toNat + 1) % 65536)).toNat) ∧
    (s.memSize ≤ x.toNat → s.store16 x v = .error x) ∧
    (x.toNat < s.memSize → s.memSize ≤ (x + 1).toNat → s.store16 x v = .error (x + 1)) ∧
    (x.toNat < s.memSize → (x + 1).toNat < s.memSize → ∃ t : State, s.store16 x v = .ok t ∧ t.read16 x = v ∧
      t = { s with mem := t.mem } ∧ t.MemOk ∧
      (t.mem8 x.toNat).toNat = v.toNat % 256 ∧ (t.mem8 (x + 1).toNat).toNat = v.toNat / 256 ∧
      ∀ i, i ≠ x.toNat → i ≠ (x + 1).toNat → t.mem8 i = s.mem8 i)

/-- `PUSH rr` then `POP rr` restores the pair and SP when both stack addresses are below N, for AF because `F[3:0] = 0`
(43_stack.md R301 to R303). -/
def Obligations.PushThenPopRestores : Prop :=
  ∀ (s : State) (q : StackPair), s.Inv → (s.sp - 1).toNat < s.memSize → (s.sp - 2).toNat < s.memSize →
    ∃ t u : State, exec (.push q) s = .next t ∧ exec (.pop q) t = .next u ∧
      u.stackPair q = s.stackPair q ∧ u.sp = s.sp ∧ u.pc = s.pc + 2 ∧
      u = { s with sp := s.sp, pc := s.pc + 2, cyc := s.cyc + 28, mem := t.mem }

/-- `CALL a16` then `RET` returns to `pc0 + 3` with SP restored when both stack addresses are below N (44_control.md R317,
R319). -/
def Obligations.CallThenReturnRestores : Prop :=
  ∀ (s : State) (w : Word), s.Inv → (s.sp - 1).toNat < s.memSize → (s.sp - 2).toNat < s.memSize →
    ∃ t : State, exec (.callA16 w) s = .next t ∧ t.pc = w ∧
      exec .ret t = .next { s with pc := s.pc + 3, cyc := s.cyc + 40, mem := t.mem }

/-! ## Arithmetic and logical instructions -/

/-- `ADD A` and `ADC A`, every source form (40_arith_logic.md R151 to R156): bytes, result, flags Z 0 H C, length, cost. -/
def Obligations.AddAndAddWithCarry : Prop :=
  ∀ (src : Src) (s : State),
    let a := s.a.toNat
    let v := (s.operand src).toNat
    let c := s.cf.toNat
    encode (.alu .add src) = src.bytes 0 ∧ encode (.alu .adc src) = src.bytes 1 ∧
    exec (.alu .add src) s = .next { s with
      a := BitVec.ofNat 8 (a + v)
      f := packFlags (decide ((a + v) % 256 = 0)) false (decide (a % 16 + v % 16 > 15)) (decide (a + v > 255))
      pc := s.pc + src.len, cyc := s.cyc + src.cost } ∧
    exec (.alu .adc src) s = .next { s with
      a := BitVec.ofNat 8 (a + v + c)
      f := packFlags (decide ((a + v + c) % 256 = 0)) false (decide (a % 16 + v % 16 + c > 15)) (decide (a + v + c > 255))
      pc := s.pc + src.len, cyc := s.cyc + src.cost }

/-- `SUB`, `SBC A` and `CP`, every source form (40_arith_logic.md R157 to R162, R172 to R174): bytes, result (none for CP),
flags Z 1 H C with H and C as borrows, length, cost. -/
def Obligations.SubtractAndCompare : Prop :=
  ∀ (src : Src) (s : State),
    let a := s.a.toNat
    let v := (s.operand src).toNat
    let c := s.cf.toNat
    encode (.alu .sub src) = src.bytes 2 ∧ encode (.alu .sbc src) = src.bytes 3 ∧ encode (.alu .cp src) = src.bytes 7 ∧
    exec (.alu .sub src) s = .next { s with
      a := s.a - s.operand src
      f := packFlags (decide (a = v)) true (decide (a % 16 < v % 16)) (decide (a < v))
      pc := s.pc + src.len, cyc := s.cyc + src.cost } ∧
    exec (.alu .sbc src) s = .next { s with
      a := BitVec.ofInt 8 ((a : Int) - v - c)
      f := packFlags (decide (((a : Int) - v - c) % 256 = 0)) true (decide (a % 16 < v % 16 + c)) (decide (a < v + c))
      pc := s.pc + src.len, cyc := s.cyc + src.cost } ∧
    exec (.alu .cp src) s = .next { s with
      f := packFlags (decide (a = v)) true (decide (a % 16 < v % 16)) (decide (a < v))
      pc := s.pc + src.len, cyc := s.cyc + src.cost }

/-- `AND`, `XOR`, `OR`, every source form (40_arith_logic.md R163 to R171): bytes, result, flags Z 0 1 0 for AND and Z 0 0 0
for the others, length, cost. -/
def Obligations.BitwiseLogic : Prop :=
  ∀ (src : Src) (s : State),
    let v := s.operand src
    encode (.alu .and src) = src.bytes 4 ∧ encode (.alu .xor src) = src.bytes 5 ∧ encode (.alu .or src) = src.bytes 6 ∧
    exec (.alu .and src) s = .next { s with
      a := s.a &&& v, f := packFlags (decide (s.a &&& v = 0)) false true false
      pc := s.pc + src.len, cyc := s.cyc + src.cost } ∧
    exec (.alu .xor src) s = .next { s with
      a := s.a ^^^ v, f := packFlags (decide (s.a = v)) false false false
      pc := s.pc + src.len, cyc := s.cyc + src.cost } ∧
    exec (.alu .or src) s = .next { s with
      a := s.a ||| v, f := packFlags (decide (s.a = 0 ∧ v = 0)) false false false
      pc := s.pc + src.len, cyc := s.cyc + src.cost }

/-- `INC r` and `DEC r` (40_arith_logic.md R175, R177): bytes, result, flags Z 0 H - and Z 1 H -, length 1, cost 4. -/
def Obligations.IncrementDecrementRegister : Prop :=
  ∀ (r : Reg8) (s : State),
    let v := (s.reg r).toNat
    encode (.incReg r) = [BitVec.ofNat 8 (8 * r.number + 4)] ∧ encode (.decReg r) = [BitVec.ofNat 8 (8 * r.number + 5)] ∧
    exec (.incReg r) s = .next { s.setReg r (BitVec.ofNat 8 (v + 1)) with
      f := packFlags (decide (v = 255)) false (decide (v % 16 = 15)) s.cf, pc := s.pc + 1, cyc := s.cyc + 4 } ∧
    exec (.decReg r) s = .next { s.setReg r (BitVec.ofNat 8 (v + 255)) with
      f := packFlags (decide (v = 1)) true (decide (v % 16 = 0)) s.cf, pc := s.pc + 1, cyc := s.cyc + 4 }

/-- `INC (HL)` and `DEC (HL)` (40_arith_logic.md R176, R178): with HL below N the byte at HL and the flags change, length 1,
cost 12; with HL at or past N the engine fails and nothing else changes, flags included (the spec's decision D8). -/
def Obligations.IncrementDecrementMemory : Prop :=
  ∀ s : State,
    let v := (s.mem8 s.hl.toNat).toNat
    encode .incAtHl = [0x34] ∧ encode .decAtHl = [0x35] ∧
    (s.hl.toNat < s.memSize →
      exec .incAtHl s = .next { s with
        mem := s.mem.write s.hl.toNat (BitVec.ofNat 8 (v + 1))
        f := packFlags (decide (v = 255)) false (decide (v % 16 = 15)) s.cf, pc := s.pc + 1, cyc := s.cyc + 12 } ∧
      exec .decAtHl s = .next { s with
        mem := s.mem.write s.hl.toNat (BitVec.ofNat 8 (v + 255))
        f := packFlags (decide (v = 1)) true (decide (v % 16 = 0)) s.cf, pc := s.pc + 1, cyc := s.cyc + 12 }) ∧
    (s.memSize ≤ s.hl.toNat →
      exec .incAtHl s = .next { s with st := .failed, err := some (.storeOutOfRange s.hl s.pc) } ∧
      exec .decAtHl s = .next { s with st := .failed, err := some (.storeOutOfRange s.hl s.pc) })

/-- `ADD HL rr`, `INC rr`, `DEC rr` (40_arith_logic.md R179 to R181): bytes, results modulo 65536, flags - 0 H C with H the
carry out of bit 11 for ADD and none for the others, length 1, cost 8. -/
def Obligations.PairArithmetic : Prop :=
  ∀ (p : Pair) (s : State),
    let x := s.hl.toNat
    let v := (s.pair p).toNat
    encode (.addHl p) = [BitVec.ofNat 8 (16 * p.number + 0x09)] ∧ encode (.incPair p) = [BitVec.ofNat 8 (16 * p.number + 0x03)] ∧
    encode (.decPair p) = [BitVec.ofNat 8 (16 * p.number + 0x0B)] ∧
    exec (.addHl p) s = .next { s with
      h := BitVec.ofNat 8 ((x + v) % 65536 / 256), l := BitVec.ofNat 8 (x + v)
      f := packFlags s.zf false (decide (x % 4096 + v % 4096 > 4095)) (decide (x + v > 65535))
      pc := s.pc + 1, cyc := s.cyc + 8 } ∧
    exec (.incPair p) s = .next { s.setPair p (BitVec.ofNat 16 (v + 1)) with pc := s.pc + 1, cyc := s.cyc + 8 } ∧
    exec (.decPair p) s = .next { s.setPair p (BitVec.ofNat 16 (v + 65535)) with pc := s.pc + 1, cyc := s.cyc + 8 }

/-- `ADD SP r8` and `LD HL SP+r8` (40_arith_logic.md R182, 41_load.md R243): SP plus the operand read in two's complement,
flags 0 0 H C from the unsigned addition of the low bytes, length 2, costs 16 and 12. -/
def Obligations.SignedStackOffset : Prop :=
  ∀ (n : Byte) (s : State),
    let sum := BitVec.ofInt 16 ((s.sp.toNat : Int) + n.toInt)
    let flags := packFlags false false (decide (s.sp.toNat % 16 + n.toNat % 16 > 15)) (decide (s.sp.toNat % 256 + n.toNat > 255))
    encode (.addSpR8 n) = [0xE8, n] ∧ encode (.ldHlSpR8 n) = [0xF8, n] ∧
    exec (.addSpR8 n) s = .next { s with sp := sum, f := flags, pc := s.pc + 2, cyc := s.cyc + 16 } ∧
    exec (.ldHlSpR8 n) s = .next { s with
      h := BitVec.ofNat 8 (sum.toNat / 256), l := BitVec.ofNat 8 sum.toNat, f := flags, pc := s.pc + 2, cyc := s.cyc + 12 }

/-- `RLCA`, `RRCA`, `RLA`, `RRA` (40_arith_logic.md R183 to R186): flags 0 0 0 C, `Zf` cleared whatever the result. -/
def Obligations.AccumulatorRotates : Prop :=
  ∀ s : State,
    let a := s.a.toNat
    let c := s.cf.toNat
    let out := fun (r : Nat) (carry : Bool) => (.next { s with
      a := BitVec.ofNat 8 r, f := packFlags false false false carry, pc := s.pc + 1, cyc := s.cyc + 4 } : Out)
    encode .rlcAcc = [0x07] ∧ encode .rrcAcc = [0x0F] ∧ encode .rlAcc = [0x17] ∧ encode .rrAcc = [0x1F] ∧
    exec .rlcAcc s = out (2 * a % 256 + a / 128) (decide (128 ≤ a)) ∧
    exec .rrcAcc s = out (a / 2 + 128 * (a % 2)) (decide (a % 2 = 1)) ∧
    exec .rlAcc s = out (2 * a % 256 + c) (decide (128 ≤ a)) ∧
    exec .rrAcc s = out (a / 2 + 128 * c) (decide (a % 2 = 1))

/-- `DAA` (40_arith_logic.md R187): the correction from the old `Nf Hf Cf` and A, flags Z - 0 C. -/
def Obligations.DecimalAdjust : Prop :=
  ∀ s : State,
    let a := s.a.toNat
    let low : Bool := s.hf || (!s.nf && decide (a % 16 > 9))
    let high : Bool := s.cf || (!s.nf && decide (a > 0x99))
    let adj := 6 * low.toNat + 96 * high.toNat
    let t := if s.nf then a + 256 - adj else a + adj
    encode .daa = [0x27] ∧
    exec .daa s = .next { s with
      a := BitVec.ofNat 8 t, f := packFlags (decide (t % 256 = 0)) s.nf false high, pc := s.pc + 1, cyc := s.cyc + 4 }

/-- `CPL`, `SCF`, `CCF` (40_arith_logic.md R188 to R190): flags - 1 1 -, - 0 0 1, - 0 0 C. -/
def Obligations.ComplementAndCarryFlag : Prop :=
  ∀ s : State,
    encode .cplAcc = [0x2F] ∧ encode .scf = [0x37] ∧ encode .ccf = [0x3F] ∧
    exec .cplAcc s = .next { s with
      a := BitVec.ofNat 8 (255 - s.a.toNat), f := packFlags s.zf true true s.cf, pc := s.pc + 1, cyc := s.cyc + 4 } ∧
    exec .scf s = .next { s with f := packFlags s.zf false false true, pc := s.pc + 1, cyc := s.cyc + 4 } ∧
    exec .ccf s = .next { s with f := packFlags s.zf false false (!s.cf), pc := s.pc + 1, cyc := s.cyc + 4 }

/-! ## Loads -/

/-- `LD r r'`, `LD r d8`, `LD r (HL)` for every register (41_load.md R221 to R223): bytes, result, no flag, lengths 1, 2, 1,
costs 4, 8, 8; a source past the end of memory loads 0x00. -/
def Obligations.LoadRegister : Prop :=
  ∀ (r r' : Reg8) (n : Byte) (s : State),
    encode (.ldReg r r') = [BitVec.ofNat 8 (0x40 + 8 * r.number + r'.number)] ∧
    encode (.ldImm r n) = [BitVec.ofNat 8 (8 * r.number + 6), n] ∧
    encode (.ldFromHl r) = [BitVec.ofNat 8 (0x46 + 8 * r.number)] ∧
    exec (.ldReg r r') s = .next { s.setReg r (s.reg r') with pc := s.pc + 1, cyc := s.cyc + 4 } ∧
    exec (.ldImm r n) s = .next { s.setReg r n with pc := s.pc + 2, cyc := s.cyc + 8 } ∧
    exec (.ldFromHl r) s = .next { s.setReg r (s.mem8 s.hl.toNat) with pc := s.pc + 1, cyc := s.cyc + 8 }

/-- The loads of A from memory (41_load.md R226, R227, R230, R233, R235, R237, R239): bytes, the byte at the address or 0x00
past the end, HL stepped by the last two, no flag, lengths and costs. The order of the address bytes is the spec's own
decision D4 (log 15). -/
def Obligations.LoadAccumulatorFromMemory : Prop :=
  ∀ (n : Byte) (w : Word) (s : State),
    let hlUp := (s.hl.toNat + 1) % 65536
    let hlDown := (s.hl.toNat + 65535) % 65536
    encode .ldAAtBc = [0x0A] ∧ encode .ldAAtDe = [0x1A] ∧ encode (.ldAAtA16 w) = [0xFA, loByte w, hiByte w] ∧
    encode (.ldhAAtA8 n) = [0xF0, n] ∧ encode .ldAAtC = [0xF2] ∧ encode .ldAAtHlInc = [0x2A] ∧ encode .ldAAtHlDec = [0x3A] ∧
    exec .ldAAtBc s = .next { s with a := s.mem8 s.bc.toNat, pc := s.pc + 1, cyc := s.cyc + 8 } ∧
    exec .ldAAtDe s = .next { s with a := s.mem8 s.de.toNat, pc := s.pc + 1, cyc := s.cyc + 8 } ∧
    exec (.ldAAtA16 w) s = .next { s with a := s.mem8 w.toNat, pc := s.pc + 3, cyc := s.cyc + 16 } ∧
    exec (.ldhAAtA8 n) s = .next { s with a := s.mem8 (0xFF00 + n.toNat), pc := s.pc + 2, cyc := s.cyc + 12 } ∧
    exec .ldAAtC s = .next { s with a := s.mem8 (0xFF00 + s.c.toNat), pc := s.pc + 1, cyc := s.cyc + 8 } ∧
    exec .ldAAtHlInc s = .next { s with
      a := s.mem8 s.hl.toNat, h := BitVec.ofNat 8 (hlUp / 256), l := BitVec.ofNat 8 hlUp, pc := s.pc + 1, cyc := s.cyc + 8 } ∧
    exec .ldAAtHlDec s = .next { s with
      a := s.mem8 s.hl.toNat, h := BitVec.ofNat 8 (hlDown / 256), l := BitVec.ofNat 8 hlDown, pc := s.pc + 1, cyc := s.cyc + 8 }

/-- The one-byte stores (41_load.md R224, R225, R228, R229, R231, R232, R234, R236, R238), each with the address below N: the
byte stored at the address, HL stepped by `(HL+)` and `(HL-)`, no flag, lengths and costs. -/
def Obligations.StoreByteCompletes : Prop :=
  ∀ (r : Reg8) (n : Byte) (w : Word) (s : State),
    let hlUp := (s.hl.toNat + 1) % 65536
    let hlDown := (s.hl.toNat + 65535) % 65536
    (s.hl.toNat < s.memSize →
      exec (.ldToHl r) s = .next { s with mem := s.mem.write s.hl.toNat (s.reg r), pc := s.pc + 1, cyc := s.cyc + 8 } ∧
      exec (.ldAtHlD8 n) s = .next { s with mem := s.mem.write s.hl.toNat n, pc := s.pc + 2, cyc := s.cyc + 12 } ∧
      exec .ldAtHlIncA s = .next { s with
        mem := s.mem.write s.hl.toNat s.a, h := BitVec.ofNat 8 (hlUp / 256), l := BitVec.ofNat 8 hlUp
        pc := s.pc + 1, cyc := s.cyc + 8 } ∧
      exec .ldAtHlDecA s = .next { s with
        mem := s.mem.write s.hl.toNat s.a, h := BitVec.ofNat 8 (hlDown / 256), l := BitVec.ofNat 8 hlDown
        pc := s.pc + 1, cyc := s.cyc + 8 }) ∧
    (s.bc.toNat < s.memSize →
      exec .ldAtBcA s = .next { s with mem := s.mem.write s.bc.toNat s.a, pc := s.pc + 1, cyc := s.cyc + 8 }) ∧
    (s.de.toNat < s.memSize →
      exec .ldAtDeA s = .next { s with mem := s.mem.write s.de.toNat s.a, pc := s.pc + 1, cyc := s.cyc + 8 }) ∧
    (w.toNat < s.memSize →
      exec (.ldAtA16A w) s = .next { s with mem := s.mem.write w.toNat s.a, pc := s.pc + 3, cyc := s.cyc + 16 }) ∧
    (0xFF00 + n.toNat < s.memSize →
      exec (.ldhAtA8A n) s = .next { s with mem := s.mem.write (0xFF00 + n.toNat) s.a, pc := s.pc + 2, cyc := s.cyc + 12 }) ∧
    (0xFF00 + s.c.toNat < s.memSize →
      exec .ldAtCA s = .next { s with mem := s.mem.write (0xFF00 + s.c.toNat) s.a, pc := s.pc + 1, cyc := s.cyc + 8 })

/-- Every instruction that would store a byte at or past N fails with `StoreOutOfRange` of the first such address in the
order the rule lists its writes, and nothing else changes (60_exceptions.md R373, 20_memory.md R63, R65, the spec's decision D8);
an instruction all of whose store addresses are below N does not fail in this way. -/
def Obligations.StoreOutOfRangeExactly : Prop :=
  ∀ (i : Instr) (s : State),
    match (i.storesAt s).find? (fun x => decide (s.memSize ≤ x.toNat)) with
    | some x => exec i s = .next { s with st := .failed, err := some (.storeOutOfRange x s.pc) }
    | none => ∀ t x p, s.err = none → exec i s = .next t → t.err ≠ some (.storeOutOfRange x p)

/-- `LD rr d16`, `LD SP HL`, and `LD (a16) SP` with both addresses below N (41_load.md R240 to R242): bytes, results, the low byte of
SP at a16 and the high byte at a16 + 1 modulo 65536, no flag, lengths 3, 1, 3, costs 12, 8, 20. -/
def Obligations.LoadPairAndStackPointer : Prop :=
  ∀ (p : Pair) (w : Word) (s : State),
    encode (.ldPair p w) = [BitVec.ofNat 8 (16 * p.number + 1), loByte w, hiByte w] ∧ encode .ldSpHl = [0xF9] ∧
    encode (.ldAtA16Sp w) = [0x08, loByte w, hiByte w] ∧
    exec (.ldPair p w) s = .next { s.setPair p w with pc := s.pc + 3, cyc := s.cyc + 12 } ∧
    exec .ldSpHl s = .next { s with sp := s.hl, pc := s.pc + 1, cyc := s.cyc + 8 } ∧
    (w.toNat < s.memSize → (w.toNat + 1) % 65536 < s.memSize →
      exec (.ldAtA16Sp w) s = .next { s with
        mem := (s.mem.write w.toNat (BitVec.ofNat 8 s.sp.toNat)).write ((w.toNat + 1) % 65536) (BitVec.ofNat 8 (s.sp.toNat / 256))
        pc := s.pc + 3, cyc := s.cyc + 20 })

/-! ## Extended space -/

/-- The rotates, shifts and SWAP of a register (42_bitops_ext.md R271, R273, R275, R277, R279, R281, R283, R285): bytes, result,
flags Z 0 0 C (SWAP: Z 0 0 0), length 2, cost 8. -/
def Obligations.RotateRegister : Prop :=
  ∀ (r : Reg8) (s : State),
    let v := (s.reg r).toNat
    let c := s.cf.toNat
    let does := fun (o : Rot) (res : Nat) (carry : Bool) =>
      encode (.rot o r) = [0xCB, BitVec.ofNat 8 (8 * o.number + r.number)] ∧
      exec (.rot o r) s = .next { s.setReg r (BitVec.ofNat 8 res) with
        f := packFlags (decide (res = 0)) false false carry, pc := s.pc + 2, cyc := s.cyc + 8 }
    does .rlc (2 * v % 256 + v / 128) (decide (128 ≤ v)) ∧ does .rrc (v / 2 + 128 * (v % 2)) (decide (v % 2 = 1)) ∧
    does .rl (2 * v % 256 + c) (decide (128 ≤ v)) ∧ does .rr (v / 2 + 128 * c) (decide (v % 2 = 1)) ∧
    does .sla (2 * v % 256) (decide (128 ≤ v)) ∧ does .sra (v / 2 + 128 * (v / 128)) (decide (v % 2 = 1)) ∧
    does .swap (16 * (v % 16) + v / 16) false ∧ does .srl (v / 2) (decide (v % 2 = 1))

/-- The rotates, shifts and SWAP of the byte at HL with HL below N (42_bitops_ext.md R272, R274, R276, R278, R280, R282, R284,
R286): bytes, the byte stored back, flags, length 2, cost 16. -/
def Obligations.RotateMemory : Prop :=
  ∀ s : State, s.hl.toNat < s.memSize →
    let v := (s.mem8 s.hl.toNat).toNat
    let c := s.cf.toNat
    let does := fun (o : Rot) (res : Nat) (carry : Bool) =>
      encode (.rotHl o) = [0xCB, BitVec.ofNat 8 (8 * o.number + 6)] ∧
      exec (.rotHl o) s = .next { s with
        mem := s.mem.write s.hl.toNat (BitVec.ofNat 8 res)
        f := packFlags (decide (res = 0)) false false carry, pc := s.pc + 2, cyc := s.cyc + 16 }
    does .rlc (2 * v % 256 + v / 128) (decide (128 ≤ v)) ∧ does .rrc (v / 2 + 128 * (v % 2)) (decide (v % 2 = 1)) ∧
    does .rl (2 * v % 256 + c) (decide (128 ≤ v)) ∧ does .rr (v / 2 + 128 * c) (decide (v % 2 = 1)) ∧
    does .sla (2 * v % 256) (decide (128 ≤ v)) ∧ does .sra (v / 2 + 128 * (v / 128)) (decide (v % 2 = 1)) ∧
    does .swap (16 * (v % 16) + v / 16) false ∧ does .srl (v / 2) (decide (v % 2 = 1))

/-- `BIT b r` and `BIT b (HL)` (42_bitops_ext.md R287, R288): bytes, flags Z 0 1 - with Zf set when the tested bit is 0, nothing
written, length 2, costs 8 and 12; past the end of memory the byte is 0x00. -/
def Obligations.TestBit : Prop :=
  ∀ (b : Fin 8) (r : Reg8) (s : State),
    encode (.bit b r) = [0xCB, BitVec.ofNat 8 (0x40 + 8 * b.val + r.number)] ∧
    encode (.bitHl b) = [0xCB, BitVec.ofNat 8 (0x46 + 8 * b.val)] ∧
    exec (.bit b r) s = .next { s with
      f := packFlags (decide ((s.reg r).toNat / 2 ^ b.val % 2 = 0)) false true s.cf, pc := s.pc + 2, cyc := s.cyc + 8 } ∧
    exec (.bitHl b) s = .next { s with
      f := packFlags (decide ((s.mem8 s.hl.toNat).toNat / 2 ^ b.val % 2 = 0)) false true s.cf, pc := s.pc + 2, cyc := s.cyc + 12 }

/-- `RES b` and `SET b` of a register and of the byte at HL, with HL below N (42_bitops_ext.md R289 to R292): bytes, exactly bit b
cleared or set, no flag, length 2, costs 8 and 16. What R290 and R292 do with HL at or past N is StoreOutOfRangeExactly. -/
def Obligations.ResetAndSetBit : Prop :=
  let cleared := fun (b : Fin 8) (old new : Byte) => ∀ k, k < 8 → new.getLsbD k = (decide (k ≠ b.val) && old.getLsbD k)
  let raised := fun (b : Fin 8) (old new : Byte) => ∀ k, k < 8 → new.getLsbD k = (decide (k = b.val) || old.getLsbD k)
  ∀ (b : Fin 8) (r : Reg8) (s : State),
    encode (.res b r) = [0xCB, BitVec.ofNat 8 (0x80 + 8 * b.val + r.number)] ∧
    encode (.set b r) = [0xCB, BitVec.ofNat 8 (0xC0 + 8 * b.val + r.number)] ∧
    encode (.resHl b) = [0xCB, BitVec.ofNat 8 (0x86 + 8 * b.val)] ∧
    encode (.setHl b) = [0xCB, BitVec.ofNat 8 (0xC6 + 8 * b.val)] ∧
    (∃ x, cleared b (s.reg r) x ∧ exec (.res b r) s = .next { s.setReg r x with pc := s.pc + 2, cyc := s.cyc + 8 }) ∧
    (∃ x, raised b (s.reg r) x ∧ exec (.set b r) s = .next { s.setReg r x with pc := s.pc + 2, cyc := s.cyc + 8 }) ∧
    (s.hl.toNat < s.memSize →
      (∃ x, cleared b (s.mem8 s.hl.toNat) x ∧
        exec (.resHl b) s = .next { s with mem := s.mem.write s.hl.toNat x, pc := s.pc + 2, cyc := s.cyc + 16 }) ∧
      (∃ x, raised b (s.mem8 s.hl.toNat) x ∧
        exec (.setHl b) s = .next { s with mem := s.mem.write s.hl.toNat x, pc := s.pc + 2, cyc := s.cyc + 16 }))

/-! ## Stack and control transfer -/

/-- `PUSH rr` with both stack addresses below N (43_stack.md R300, R301): the high byte at SP - 1, the low byte at SP - 2, SP
down by 2, no flag, length 1, cost 16. -/
def Obligations.PushCompletes : Prop :=
  ∀ (q : StackPair) (s : State), (s.sp - 1).toNat < s.memSize → (s.sp - 2).toNat < s.memSize →
    encode (.push q) = [BitVec.ofNat 8 (0xC5 + 16 * q.number)] ∧
    exec (.push q) s = .next { s with
      mem := (s.mem.write (s.sp - 1).toNat (BitVec.ofNat 8 ((s.stackPair q).toNat / 256))).write (s.sp - 2).toNat
        (BitVec.ofNat 8 (s.stackPair q).toNat)
      sp := s.sp - 2, pc := s.pc + 1, cyc := s.cyc + 16 }

/-- `POP rr` (43_stack.md R302) and `POP AF` (R303, its mask the spec's decision D5): the low register from SP, the high register
from SP + 1 modulo 65536, bytes past the end of memory 0x00, SP up by 2, length 1, cost 12. -/
def Obligations.PopCompletes : Prop :=
  ∀ s : State,
    let lo := s.mem8 s.sp.toNat
    let hi := s.mem8 ((s.sp.toNat + 1) % 65536)
    encode (.pop .bc) = [0xC1] ∧ encode (.pop .de) = [0xD1] ∧ encode (.pop .hl) = [0xE1] ∧ encode (.pop .af) = [0xF1] ∧
    exec (.pop .bc) s = .next { s with b := hi, c := lo, sp := s.sp + 2, pc := s.pc + 1, cyc := s.cyc + 12 } ∧
    exec (.pop .de) s = .next { s with d := hi, e := lo, sp := s.sp + 2, pc := s.pc + 1, cyc := s.cyc + 12 } ∧
    exec (.pop .hl) s = .next { s with h := hi, l := lo, sp := s.sp + 2, pc := s.pc + 1, cyc := s.cyc + 12 } ∧
    exec (.pop .af) s = .next { s with
      a := hi, f := BitVec.ofNat 8 (lo.toNat / 16 * 16), sp := s.sp + 2, pc := s.pc + 1, cyc := s.cyc + 12 }

/-- The conditions test one flag (44_control.md R311), and the jumps (R312 to R316): target or fall-through, no flag, no
other change, costs taken and not taken. The order of the address bytes is the spec's own decision D4 (log 15). -/
def Obligations.Jumps : Prop :=
  ∀ (cc : Cond) (n : Byte) (w : Word) (s : State),
    let rel := BitVec.ofInt 16 ((s.pc.toNat : Int) + 2 + n.toInt)
    s.cond .nz = !s.f.getLsbD 7 ∧ s.cond .z = s.f.getLsbD 7 ∧ s.cond .nc = !s.f.getLsbD 4 ∧ s.cond .c = s.f.getLsbD 4 ∧
    encode (.jpA16 w) = [0xC3, loByte w, hiByte w] ∧ encode (.jpCond cc w) = [BitVec.ofNat 8 (0xC2 + 8 * cc.number), loByte w, hiByte w] ∧
    encode .jpAtHl = [0xE9] ∧ encode (.jrR8 n) = [0x18, n] ∧ encode (.jrCond cc n) = [BitVec.ofNat 8 (0x20 + 8 * cc.number), n] ∧
    exec (.jpA16 w) s = .next { s with pc := w, cyc := s.cyc + 16 } ∧
    exec (.jpCond cc w) s = .next (if s.cond cc then { s with pc := w, cyc := s.cyc + 16 }
      else { s with pc := s.pc + 3, cyc := s.cyc + 12 }) ∧
    exec .jpAtHl s = .next { s with pc := s.hl, cyc := s.cyc + 4 } ∧
    exec (.jrR8 n) s = .next { s with pc := rel, cyc := s.cyc + 12 } ∧
    exec (.jrCond cc n) s = .next (if s.cond cc then { s with pc := rel, cyc := s.cyc + 12 }
      else { s with pc := s.pc + 2, cyc := s.cyc + 8 })

/-- `CALL a16`, `CALL cc a16`, `RST n` (44_control.md R317, R318, R322): with both stack addresses below N the address of the
next instruction is pushed, high byte at SP - 1, and pc is the target; a condition that is false pushes nothing whatever
SP is. -/
def Obligations.CallsAndRestarts : Prop :=
  ∀ (cc : Cond) (w : Word) (t : Fin 8) (s : State),
    let push := fun (ret target : Word) (cost : BitVec 64) => (.next { s with
      mem := (s.mem.write (s.sp - 1).toNat (BitVec.ofNat 8 (ret.toNat / 256))).write (s.sp - 2).toNat (BitVec.ofNat 8 ret.toNat)
      sp := s.sp - 2, pc := target, cyc := s.cyc + cost } : Out)
    encode (.callA16 w) = [0xCD, loByte w, hiByte w] ∧
    encode (.callCond cc w) = [BitVec.ofNat 8 (0xC4 + 8 * cc.number), loByte w, hiByte w] ∧
    encode (.rst t) = [BitVec.ofNat 8 (0xC7 + 8 * t.val)] ∧
    (s.cond cc = false → exec (.callCond cc w) s = .next { s with pc := s.pc + 3, cyc := s.cyc + 12 }) ∧
    ((s.sp - 1).toNat < s.memSize → (s.sp - 2).toNat < s.memSize →
      exec (.callA16 w) s = push (s.pc + 3) w 24 ∧
      (s.cond cc = true → exec (.callCond cc w) s = push (s.pc + 3) w 24) ∧
      exec (.rst t) s = push (s.pc + 1) (BitVec.ofNat 16 (8 * t.val)) 16)

/-- `RET`, `RET cc`, `RETI` (44_control.md R319 to R321; RETI enables nothing, the spec's decision D13): pc from the word at
SP, low byte first, bytes past the end of memory 0x00, SP up by 2; a condition that is false leaves SP. -/
def Obligations.Returns : Prop :=
  ∀ (cc : Cond) (s : State),
    let top := BitVec.ofNat 16 ((s.mem8 s.sp.toNat).toNat + 256 * (s.mem8 ((s.sp.toNat + 1) % 65536)).toNat)
    encode .ret = [0xC9] ∧ encode (.retCond cc) = [BitVec.ofNat 8 (0xC0 + 8 * cc.number)] ∧ encode .reti = [0xD9] ∧
    exec .ret s = .next { s with pc := top, sp := s.sp + 2, cyc := s.cyc + 16 } ∧
    exec (.retCond cc) s = .next (if s.cond cc then { s with pc := top, sp := s.sp + 2, cyc := s.cyc + 20 }
      else { s with pc := s.pc + 1, cyc := s.cyc + 8 }) ∧
    exec .reti s = .next { s with pc := top, sp := s.sp + 2, cyc := s.cyc + 16 }

/-! ## System -/

/-- `NOP`, `STOP 0`, `DI`, `EI` advance pc by 1 and cost 4; `HALT` sets `ST <- Halted`, leaves pc and costs 4; nothing else
changes (45_system.md R340 to R344; that STOP, DI and EI have no effect is the spec's decisions D3, D13). -/
def Obligations.SystemInstructions : Prop :=
  ∀ s : State,
    let goesOn := (.next { s with pc := s.pc + 1, cyc := s.cyc + 4 } : Out)
    encode .nop = [0x00] ∧ encode .stop0 = [0x10] ∧ encode .halt = [0x76] ∧ encode .di = [0xF3] ∧ encode .ei = [0xFB] ∧
    exec .nop s = goesOn ∧ exec .stop0 s = goesOn ∧ exec .di s = goesOn ∧ exec .ei s = goesOn ∧
    exec .halt s = .next { s with st := .halted, cyc := s.cyc + 4 }

/-! ## Rendering -/

/-- Rendering of every form with an operand (30_encoding.md R125 to R128): the form with its placeholder replaced by the operand in
hexadecimal digits 0 to 9 and A to F, most significant first, 2 digits for 8 bits and 4 for 16 bits; the seven signed operands are
the magnitude in 2 digits, with `-` before it when the byte is 128 or more. The spellings are the spec's own decision D20, the
padding and the non-negative form its D18 (log 23). -/
def Obligations.RenderingOfOperands : Prop :=
  let digit := fun (k : Nat) =>
    ["0", "1", "2", "3", "4", "5", "6", "7", "8", "9", "A", "B", "C", "D", "E", "F"].getD k "?"
  let two := fun (x : Nat) => digit (x / 16) ++ digit (x % 16)
  let four := fun (x : Nat) => digit (x / 4096) ++ digit (x / 256 % 16) ++ digit (x / 16 % 16) ++ digit (x % 16)
  let reg : Reg8 → String := fun
    | .b => "B" | .c => "C" | .d => "D" | .e => "E" | .h => "H" | .l => "L" | .a => "A"
  let pair : Pair → String := fun
    | .bc => "BC" | .de => "DE" | .hl => "HL" | .sp => "SP"
  let cond : Cond → String := fun
    | .nz => "NZ" | .z => "Z" | .nc => "NC" | .c => "C"
  let alu : Alu → String := fun
    | .add => "ADD A" | .adc => "ADC A" | .sub => "SUB" | .sbc => "SBC A" | .and => "AND" | .xor => "XOR" | .or => "OR" | .cp => "CP"
  ∀ (r : Reg8) (p : Pair) (cc : Cond) (o : Alu) (n : Byte) (w : Word),
    let d8 := two n.toNat
    let r8 := if 128 ≤ n.toNat then "-" ++ two (256 - n.toNat) else two n.toNat
    let d16 := four w.toNat
    (Instr.ldImm r n).render = "LD " ++ reg r ++ " " ++ d8 ∧ (Instr.ldAtHlD8 n).render = "LD (HL) " ++ d8 ∧
    (Instr.alu o (.imm n)).render = alu o ++ " " ++ d8 ∧
    (Instr.ldhAtA8A n).render = "LDH (" ++ d8 ++ ") A" ∧ (Instr.ldhAAtA8 n).render = "LDH A (" ++ d8 ++ ")" ∧
    (Instr.jrR8 n).render = "JR " ++ r8 ∧ (Instr.jrCond cc n).render = "JR " ++ cond cc ++ " " ++ r8 ∧
    (Instr.addSpR8 n).render = "ADD SP " ++ r8 ∧ (Instr.ldHlSpR8 n).render = "LD HL SP+" ++ r8 ∧
    (Instr.ldPair p w).render = "LD " ++ pair p ++ " " ++ d16 ∧ (Instr.ldAtA16Sp w).render = "LD (" ++ d16 ++ ") SP" ∧
    (Instr.ldAtA16A w).render = "LD (" ++ d16 ++ ") A" ∧ (Instr.ldAAtA16 w).render = "LD A (" ++ d16 ++ ")" ∧
    (Instr.jpA16 w).render = "JP " ++ d16 ∧ (Instr.jpCond cc w).render = "JP " ++ cond cc ++ " " ++ d16 ∧
    (Instr.callA16 w).render = "CALL " ++ d16 ∧ (Instr.callCond cc w).render = "CALL " ++ cond cc ++ " " ++ d16

/-! ## The words of the statements -/

/-- What the other words of these statements stand for: the numbers of registers, pairs, conditions, operations and rotates in an
opcode (30_encoding.md R97, 10_state.md R21, R23, 44_control.md R311), the eleven bytes of class illegal (30_encoding.md R120), the
halves of a word (00_scope.md R8), the source of an ALU instruction with its bytes, length and cost (40_arith_logic.md R151 to R174), and
the write of a cell below N: that byte and no other (20_memory.md R63). -/
def Obligations.FieldNumbersAndOperands : Prop :=
  ([Reg8.b, .c, .d, .e, .h, .l, .a].map Reg8.number = [0, 1, 2, 3, 4, 5, 7]) ∧
  ([Pair.bc, .de, .hl, .sp].map Pair.number = [0, 1, 2, 3]) ∧ ([StackPair.bc, .de, .hl, .af].map StackPair.number = [0, 1, 2, 3]) ∧
  ([Cond.nz, .z, .nc, .c].map Cond.number = [0, 1, 2, 3]) ∧
  ([Alu.add, .adc, .sub, .sbc, .and, .xor, .or, .cp].map Alu.number = [0, 1, 2, 3, 4, 5, 6, 7]) ∧
  ([Rot.rlc, .rrc, .rl, .rr, .sla, .sra, .swap, .srl].map Rot.number = [0, 1, 2, 3, 4, 5, 6, 7]) ∧
  ([Hole.d3, .db, .dd, .e3, .e4, .eb, .ec, .ed, .f4, .fc, .fd].map Hole.byte =
    [0xD3, 0xDB, 0xDD, 0xE3, 0xE4, 0xEB, 0xEC, 0xED, 0xF4, 0xFC, 0xFD]) ∧
  ∀ (s : State) (r : Reg8) (n v : Byte) (w : Word) (y k i : Nat),
    (loByte w).toNat = w.toNat % 256 ∧ (hiByte w).toNat = w.toNat / 256 ∧
    s.operand (.reg r) = s.reg r ∧ s.operand .atHl = s.mem8 s.hl.toNat ∧ s.operand (.imm n) = n ∧
    (Src.reg r).bytes y = [BitVec.ofNat 8 (0x80 + 8 * y + r.number)] ∧ Src.atHl.bytes y = [BitVec.ofNat 8 (0x80 + 8 * y + 6)] ∧
    (Src.imm n).bytes y = [BitVec.ofNat 8 (0xC0 + 8 * y + 6), n] ∧
    (Src.reg r).len = 1 ∧ Src.atHl.len = 1 ∧ (Src.imm n).len = 2 ∧ (Src.reg r).cost = 4 ∧ Src.atHl.cost = 8 ∧ (Src.imm n).cost = 8 ∧
    (s.MemOk → k < s.memSize → State.MemOk { s with mem := s.mem.write k v } ∧
      State.mem8 { s with mem := s.mem.write k v } i = if i = k then v else s.mem8 i)
end

