-- ==== Sys2Proof/Laws/Shape.lean ====
section
/-! SUPPORT. Every instruction is one of the families of Syntax.lean or one of the instructions without an operand field, so that a
proof over all instructions is a proof over these shapes. -/

namespace Sys2Proof

/-- The shapes of an instruction: the families, then the single instructions. -/
inductive Instr.Shape : Instr → Prop where
  | alu (a : Alu) (x : Src) : Shape (.alu a x)
  | incReg (r : Reg8) : Shape (.incReg r)
  | decReg (r : Reg8) : Shape (.decReg r)
  | addHl (p : Pair) : Shape (.addHl p)
  | incPair (p : Pair) : Shape (.incPair p)
  | decPair (p : Pair) : Shape (.decPair p)
  | ldReg (r r' : Reg8) : Shape (.ldReg r r')
  | ldImm (r : Reg8) (n : Byte) : Shape (.ldImm r n)
  | ldFromHl (r : Reg8) : Shape (.ldFromHl r)
  | ldToHl (r : Reg8) : Shape (.ldToHl r)
  | ldPair (p : Pair) (w : Word) : Shape (.ldPair p w)
  | push (q : StackPair) : Shape (.push q)
  | pop (q : StackPair) : Shape (.pop q)
  | jpCond (cc : Cond) (w : Word) : Shape (.jpCond cc w)
  | jrCond (cc : Cond) (n : Byte) : Shape (.jrCond cc n)
  | callCond (cc : Cond) (w : Word) : Shape (.callCond cc w)
  | retCond (cc : Cond) : Shape (.retCond cc)
  | rst (t : Fin 8) : Shape (.rst t)
  | rot (o : Rot) (r : Reg8) : Shape (.rot o r)
  | rotHl (o : Rot) : Shape (.rotHl o)
  | bit (b : Fin 8) (r : Reg8) : Shape (.bit b r)
  | bitHl (b : Fin 8) : Shape (.bitHl b)
  | res (b : Fin 8) (r : Reg8) : Shape (.res b r)
  | resHl (b : Fin 8) : Shape (.resHl b)
  | set (b : Fin 8) (r : Reg8) : Shape (.set b r)
  | setHl (b : Fin 8) : Shape (.setHl b)
  | illegal (h : Hole) : Shape (.illegal h)
  | nop : Shape .nop
  | ldAtBcA : Shape .ldAtBcA
  | rlcAcc : Shape .rlcAcc
  | ldAtA16Sp (w : Word) : Shape (.ldAtA16Sp w)
  | ldAAtBc : Shape .ldAAtBc
  | rrcAcc : Shape .rrcAcc
  | stop0 : Shape .stop0
  | ldAtDeA : Shape .ldAtDeA
  | rlAcc : Shape .rlAcc
  | jrR8 (n : Byte) : Shape (.jrR8 n)
  | ldAAtDe : Shape .ldAAtDe
  | rrAcc : Shape .rrAcc
  | ldAtHlIncA : Shape .ldAtHlIncA
  | daa : Shape .daa
  | ldAAtHlInc : Shape .ldAAtHlInc
  | cplAcc : Shape .cplAcc
  | ldAtHlDecA : Shape .ldAtHlDecA
  | incAtHl : Shape .incAtHl
  | decAtHl : Shape .decAtHl
  | ldAtHlD8 (n : Byte) : Shape (.ldAtHlD8 n)
  | scf : Shape .scf
  | ldAAtHlDec : Shape .ldAAtHlDec
  | ccf : Shape .ccf
  | halt : Shape .halt
  | jpA16 (w : Word) : Shape (.jpA16 w)
  | ret : Shape .ret
  | prefixCb : Shape .prefixCb
  | callA16 (w : Word) : Shape (.callA16 w)
  | reti : Shape .reti
  | ldhAtA8A (n : Byte) : Shape (.ldhAtA8A n)
  | ldAtCA : Shape .ldAtCA
  | addSpR8 (n : Byte) : Shape (.addSpR8 n)
  | jpAtHl : Shape .jpAtHl
  | ldAtA16A (w : Word) : Shape (.ldAtA16A w)
  | ldhAAtA8 (n : Byte) : Shape (.ldhAAtA8 n)
  | ldAAtC : Shape .ldAAtC
  | di : Shape .di
  | ldHlSpR8 (n : Byte) : Shape (.ldHlSpR8 n)
  | ldSpHl : Shape .ldSpHl
  | ldAAtA16 (w : Word) : Shape (.ldAAtA16 w)
  | ei : Shape .ei

/-- Every instruction has a shape. -/
theorem Instr.shape : ∀ i : Instr, i.Shape
  | .nop => .nop
  | .ldBcD16 n => .ldPair .bc n
  | .ldAtBcA => .ldAtBcA
  | .incBc => .incPair .bc
  | .incB => .incReg .b
  | .decB => .decReg .b
  | .ldBD8 n => .ldImm .b n
  | .rlcAcc => .rlcAcc
  | .ldAtA16Sp n => .ldAtA16Sp n
  | .addHlBc => .addHl .bc
  | .ldAAtBc => .ldAAtBc
  | .decBc => .decPair .bc
  | .incC => .incReg .c
  | .decC => .decReg .c
  | .ldCD8 n => .ldImm .c n
  | .rrcAcc => .rrcAcc
  | .stop0 => .stop0
  | .ldDeD16 n => .ldPair .de n
  | .ldAtDeA => .ldAtDeA
  | .incDe => .incPair .de
  | .incD => .incReg .d
  | .decD => .decReg .d
  | .ldDD8 n => .ldImm .d n
  | .rlAcc => .rlAcc
  | .jrR8 n => .jrR8 n
  | .addHlDe => .addHl .de
  | .ldAAtDe => .ldAAtDe
  | .decDe => .decPair .de
  | .incE => .incReg .e
  | .decE => .decReg .e
  | .ldED8 n => .ldImm .e n
  | .rrAcc => .rrAcc
  | .jrNzR8 n => .jrCond .nz n
  | .ldHlD16 n => .ldPair .hl n
  | .ldAtHlIncA => .ldAtHlIncA
  | .incHl => .incPair .hl
  | .incH => .incReg .h
  | .decH => .decReg .h
  | .ldHD8 n => .ldImm .h n
  | .daa => .daa
  | .jrZR8 n => .jrCond .z n
  | .addHlHl => .addHl .hl
  | .ldAAtHlInc => .ldAAtHlInc
  | .decHl => .decPair .hl
  | .incL => .incReg .l
  | .decL => .decReg .l
  | .ldLD8 n => .ldImm .l n
  | .cplAcc => .cplAcc
  | .jrNcR8 n => .jrCond .nc n
  | .ldSpD16 n => .ldPair .sp n
  | .ldAtHlDecA => .ldAtHlDecA
  | .incSp => .incPair .sp
  | .incAtHl => .incAtHl
  | .decAtHl => .decAtHl
  | .ldAtHlD8 n => .ldAtHlD8 n
  | .scf => .scf
  | .jrCR8 n => .jrCond .c n
  | .addHlSp => .addHl .sp
  | .ldAAtHlDec => .ldAAtHlDec
  | .decSp => .decPair .sp
  | .incA => .incReg .a
  | .decA => .decReg .a
  | .ldAD8 n => .ldImm .a n
  | .ccf => .ccf
  | .ldBB => .ldReg .b .b
  | .ldBC => .ldReg .b .c
  | .ldBD => .ldReg .b .d
  | .ldBE => .ldReg .b .e
  | .ldBH => .ldReg .b .h
  | .ldBL => .ldReg .b .l
  | .ldBAtHl => .ldFromHl .b
  | .ldBA => .ldReg .b .a
  | .ldCB => .ldReg .c .b
  | .ldCC => .ldReg .c .c
  | .ldCD => .ldReg .c .d
  | .ldCE => .ldReg .c .e
  | .ldCH => .ldReg .c .h
  | .ldCL => .ldReg .c .l
  | .ldCAtHl => .ldFromHl .c
  | .ldCA => .ldReg .c .a
  | .ldDB => .ldReg .d .b
  | .ldDC => .ldReg .d .c
  | .ldDD => .ldReg .d .d
  | .ldDE => .ldReg .d .e
  | .ldDH => .ldReg .d .h
  | .ldDL => .ldReg .d .l
  | .ldDAtHl => .ldFromHl .d
  | .ldDA => .ldReg .d .a
  | .ldEB => .ldReg .e .b
  | .ldEC => .ldReg .e .c
  | .ldED => .ldReg .e .d
  | .ldEE => .ldReg .e .e
  | .ldEH => .ldReg .e .h
  | .ldEL => .ldReg .e .l
  | .ldEAtHl => .ldFromHl .e
  | .ldEA => .ldReg .e .a
  | .ldHB => .ldReg .h .b
  | .ldHC => .ldReg .h .c
  | .ldHD => .ldReg .h .d
  | .ldHE => .ldReg .h .e
  | .ldHH => .ldReg .h .h
  | .ldHL => .ldReg .h .l
  | .ldHAtHl => .ldFromHl .h
  | .ldHA => .ldReg .h .a
  | .ldLB => .ldReg .l .b
  | .ldLC => .ldReg .l .c
  | .ldLD => .ldReg .l .d
  | .ldLE => .ldReg .l .e
  | .ldLH => .ldReg .l .h
  | .ldLL => .ldReg .l .l
  | .ldLAtHl => .ldFromHl .l
  | .ldLA => .ldReg .l .a
  | .ldAtHlB => .ldToHl .b
  | .ldAtHlC => .ldToHl .c
  | .ldAtHlD => .ldToHl .d
  | .ldAtHlE => .ldToHl .e
  | .ldAtHlH => .ldToHl .h
  | .ldAtHlL => .ldToHl .l
  | .halt => .halt
  | .ldAtHlA => .ldToHl .a
  | .ldAB => .ldReg .a .b
  | .ldAC => .ldReg .a .c
  | .ldAD => .ldReg .a .d
  | .ldAE => .ldReg .a .e
  | .ldAH => .ldReg .a .h
  | .ldAL => .ldReg .a .l
  | .ldAAtHl => .ldFromHl .a
  | .ldAA => .ldReg .a .a
  | .addAB => .alu .add (.reg .b)
  | .addAC => .alu .add (.reg .c)
  | .addAD => .alu .add (.reg .d)
  | .addAE => .alu .add (.reg .e)
  | .addAH => .alu .add (.reg .h)
  | .addAL => .alu .add (.reg .l)
  | .addAAtHl => .alu .add .atHl
  | .addAA => .alu .add (.reg .a)
  | .adcAB => .alu .adc (.reg .b)
  | .adcAC => .alu .adc (.reg .c)
  | .adcAD => .alu .adc (.reg .d)
  | .adcAE => .alu .adc (.reg .e)
  | .adcAH => .alu .adc (.reg .h)
  | .adcAL => .alu .adc (.reg .l)
  | .adcAAtHl => .alu .adc .atHl
  | .adcAA => .alu .adc (.reg .a)
  | .subB => .alu .sub (.reg .b)
  | .subC => .alu .sub (.reg .c)
  | .subD => .alu .sub (.reg .d)
  | .subE => .alu .sub (.reg .e)
  | .subH => .alu .sub (.reg .h)
  | .subL => .alu .sub (.reg .l)
  | .subAtHl => .alu .sub .atHl
  | .subA => .alu .sub (.reg .a)
  | .sbcAB => .alu .sbc (.reg .b)
  | .sbcAC => .alu .sbc (.reg .c)
  | .sbcAD => .alu .sbc (.reg .d)
  | .sbcAE => .alu .sbc (.reg .e)
  | .sbcAH => .alu .sbc (.reg .h)
  | .sbcAL => .alu .sbc (.reg .l)
  | .sbcAAtHl => .alu .sbc .atHl
  | .sbcAA => .alu .sbc (.reg .a)
  | .andB => .alu .and (.reg .b)
  | .andC => .alu .and (.reg .c)
  | .andD => .alu .and (.reg .d)
  | .andE => .alu .and (.reg .e)
  | .andH => .alu .and (.reg .h)
  | .andL => .alu .and (.reg .l)
  | .andAtHl => .alu .and .atHl
  | .andA => .alu .and (.reg .a)
  | .xorB => .alu .xor (.reg .b)
  | .xorC => .alu .xor (.reg .c)
  | .xorD => .alu .xor (.reg .d)
  | .xorE => .alu .xor (.reg .e)
  | .xorH => .alu .xor (.reg .h)
  | .xorL => .alu .xor (.reg .l)
  | .xorAtHl => .alu .xor .atHl
  | .xorA => .alu .xor (.reg .a)
  | .orB => .alu .or (.reg .b)
  | .orC => .alu .or (.reg .c)
  | .orD => .alu .or (.reg .d)
  | .orE => .alu .or (.reg .e)
  | .orH => .alu .or (.reg .h)
  | .orL => .alu .or (.reg .l)
  | .orAtHl => .alu .or .atHl
  | .orA => .alu .or (.reg .a)
  | .cpB => .alu .cp (.reg .b)
  | .cpC => .alu .cp (.reg .c)
  | .cpD => .alu .cp (.reg .d)
  | .cpE => .alu .cp (.reg .e)
  | .cpH => .alu .cp (.reg .h)
  | .cpL => .alu .cp (.reg .l)
  | .cpAtHl => .alu .cp .atHl
  | .cpA => .alu .cp (.reg .a)
  | .retNz => .retCond .nz
  | .popBc => .pop .bc
  | .jpNzA16 n => .jpCond .nz n
  | .jpA16 n => .jpA16 n
  | .callNzA16 n => .callCond .nz n
  | .pushBc => .push .bc
  | .addAD8 n => .alu .add (.imm n)
  | .rst00 => .rst 0
  | .retZ => .retCond .z
  | .ret => .ret
  | .jpZA16 n => .jpCond .z n
  | .prefixCb => .prefixCb
  | .callZA16 n => .callCond .z n
  | .callA16 n => .callA16 n
  | .adcAD8 n => .alu .adc (.imm n)
  | .rst08 => .rst 1
  | .retNc => .retCond .nc
  | .popDe => .pop .de
  | .jpNcA16 n => .jpCond .nc n
  | .illegalD3 => .illegal .d3
  | .callNcA16 n => .callCond .nc n
  | .pushDe => .push .de
  | .subD8 n => .alu .sub (.imm n)
  | .rst10 => .rst 2
  | .retC => .retCond .c
  | .reti => .reti
  | .jpCA16 n => .jpCond .c n
  | .illegalDB => .illegal .db
  | .callCA16 n => .callCond .c n
  | .illegalDD => .illegal .dd
  | .sbcAD8 n => .alu .sbc (.imm n)
  | .rst18 => .rst 3
  | .ldhAtA8A n => .ldhAtA8A n
  | .popHl => .pop .hl
  | .ldAtCA => .ldAtCA
  | .illegalE3 => .illegal .e3
  | .illegalE4 => .illegal .e4
  | .pushHl => .push .hl
  | .andD8 n => .alu .and (.imm n)
  | .rst20 => .rst 4
  | .addSpR8 n => .addSpR8 n
  | .jpAtHl => .jpAtHl
  | .ldAtA16A n => .ldAtA16A n
  | .illegalEB => .illegal .eb
  | .illegalEC => .illegal .ec
  | .illegalED => .illegal .ed
  | .xorD8 n => .alu .xor (.imm n)
  | .rst28 => .rst 5
  | .ldhAAtA8 n => .ldhAAtA8 n
  | .popAf => .pop .af
  | .ldAAtC => .ldAAtC
  | .di => .di
  | .illegalF4 => .illegal .f4
  | .pushAf => .push .af
  | .orD8 n => .alu .or (.imm n)
  | .rst30 => .rst 6
  | .ldHlSpR8 n => .ldHlSpR8 n
  | .ldSpHl => .ldSpHl
  | .ldAAtA16 n => .ldAAtA16 n
  | .ei => .ei
  | .illegalFC => .illegal .fc
  | .illegalFD => .illegal .fd
  | .cpD8 n => .alu .cp (.imm n)
  | .rst38 => .rst 7
  | .rlcB => .rot .rlc .b
  | .rlcC => .rot .rlc .c
  | .rlcD => .rot .rlc .d
  | .rlcE => .rot .rlc .e
  | .rlcH => .rot .rlc .h
  | .rlcL => .rot .rlc .l
  | .rlcAtHl => .rotHl .rlc
  | .rlcA => .rot .rlc .a
  | .rrcB => .rot .rrc .b
  | .rrcC => .rot .rrc .c
  | .rrcD => .rot .rrc .d
  | .rrcE => .rot .rrc .e
  | .rrcH => .rot .rrc .h
  | .rrcL => .rot .rrc .l
  | .rrcAtHl => .rotHl .rrc
  | .rrcA => .rot .rrc .a
  | .rlB => .rot .rl .b
  | .rlC => .rot .rl .c
  | .rlD => .rot .rl .d
  | .rlE => .rot .rl .e
  | .rlH => .rot .rl .h
  | .rlL => .rot .rl .l
  | .rlAtHl => .rotHl .rl
  | .rlA => .rot .rl .a
  | .rrB => .rot .rr .b
  | .rrC => .rot .rr .c
  | .rrD => .rot .rr .d
  | .rrE => .rot .rr .e
  | .rrH => .rot .rr .h
  | .rrL => .rot .rr .l
  | .rrAtHl => .rotHl .rr
  | .rrA => .rot .rr .a
  | .slaB => .rot .sla .b
  | .slaC => .rot .sla .c
  | .slaD => .rot .sla .d
  | .slaE => .rot .sla .e
  | .slaH => .rot .sla .h
  | .slaL => .rot .sla .l
  | .slaAtHl => .rotHl .sla
  | .slaA => .rot .sla .a
  | .sraB => .rot .sra .b
  | .sraC => .rot .sra .c
  | .sraD => .rot .sra .d
  | .sraE => .rot .sra .e
  | .sraH => .rot .sra .h
  | .sraL => .rot .sra .l
  | .sraAtHl => .rotHl .sra
  | .sraA => .rot .sra .a
  | .swapB => .rot .swap .b
  | .swapC => .rot .swap .c
  | .swapD => .rot .swap .d
  | .swapE => .rot .swap .e
  | .swapH => .rot .swap .h
  | .swapL => .rot .swap .l
  | .swapAtHl => .rotHl .swap
  | .swapA => .rot .swap .a
  | .srlB => .rot .srl .b
  | .srlC => .rot .srl .c
  | .srlD => .rot .srl .d
  | .srlE => .rot .srl .e
  | .srlH => .rot .srl .h
  | .srlL => .rot .srl .l
  | .srlAtHl => .rotHl .srl
  | .srlA => .rot .srl .a
  | .bit0B => .bit 0 .b
  | .bit0C => .bit 0 .c
  | .bit0D => .bit 0 .d
  | .bit0E => .bit 0 .e
  | .bit0H => .bit 0 .h
  | .bit0L => .bit 0 .l
  | .bit0AtHl => .bitHl 0
  | .bit0A => .bit 0 .a
  | .bit1B => .bit 1 .b
  | .bit1C => .bit 1 .c
  | .bit1D => .bit 1 .d
  | .bit1E => .bit 1 .e
  | .bit1H => .bit 1 .h
  | .bit1L => .bit 1 .l
  | .bit1AtHl => .bitHl 1
  | .bit1A => .bit 1 .a
  | .bit2B => .bit 2 .b
  | .bit2C => .bit 2 .c
  | .bit2D => .bit 2 .d
  | .bit2E => .bit 2 .e
  | .bit2H => .bit 2 .h
  | .bit2L => .bit 2 .l
  | .bit2AtHl => .bitHl 2
  | .bit2A => .bit 2 .a
  | .bit3B => .bit 3 .b
  | .bit3C => .bit 3 .c
  | .bit3D => .bit 3 .d
  | .bit3E => .bit 3 .e
  | .bit3H => .bit 3 .h
  | .bit3L => .bit 3 .l
  | .bit3AtHl => .bitHl 3
  | .bit3A => .bit 3 .a
  | .bit4B => .bit 4 .b
  | .bit4C => .bit 4 .c
  | .bit4D => .bit 4 .d
  | .bit4E => .bit 4 .e
  | .bit4H => .bit 4 .h
  | .bit4L => .bit 4 .l
  | .bit4AtHl => .bitHl 4
  | .bit4A => .bit 4 .a
  | .bit5B => .bit 5 .b
  | .bit5C => .bit 5 .c
  | .bit5D => .bit 5 .d
  | .bit5E => .bit 5 .e
  | .bit5H => .bit 5 .h
  | .bit5L => .bit 5 .l
  | .bit5AtHl => .bitHl 5
  | .bit5A => .bit 5 .a
  | .bit6B => .bit 6 .b
  | .bit6C => .bit 6 .c
  | .bit6D => .bit 6 .d
  | .bit6E => .bit 6 .e
  | .bit6H => .bit 6 .h
  | .bit6L => .bit 6 .l
  | .bit6AtHl => .bitHl 6
  | .bit6A => .bit 6 .a
  | .bit7B => .bit 7 .b
  | .bit7C => .bit 7 .c
  | .bit7D => .bit 7 .d
  | .bit7E => .bit 7 .e
  | .bit7H => .bit 7 .h
  | .bit7L => .bit 7 .l
  | .bit7AtHl => .bitHl 7
  | .bit7A => .bit 7 .a
  | .res0B => .res 0 .b
  | .res0C => .res 0 .c
  | .res0D => .res 0 .d
  | .res0E => .res 0 .e
  | .res0H => .res 0 .h
  | .res0L => .res 0 .l
  | .res0AtHl => .resHl 0
  | .res0A => .res 0 .a
  | .res1B => .res 1 .b
  | .res1C => .res 1 .c
  | .res1D => .res 1 .d
  | .res1E => .res 1 .e
  | .res1H => .res 1 .h
  | .res1L => .res 1 .l
  | .res1AtHl => .resHl 1
  | .res1A => .res 1 .a
  | .res2B => .res 2 .b
  | .res2C => .res 2 .c
  | .res2D => .res 2 .d
  | .res2E => .res 2 .e
  | .res2H => .res 2 .h
  | .res2L => .res 2 .l
  | .res2AtHl => .resHl 2
  | .res2A => .res 2 .a
  | .res3B => .res 3 .b
  | .res3C => .res 3 .c
  | .res3D => .res 3 .d
  | .res3E => .res 3 .e
  | .res3H => .res 3 .h
  | .res3L => .res 3 .l
  | .res3AtHl => .resHl 3
  | .res3A => .res 3 .a
  | .res4B => .res 4 .b
  | .res4C => .res 4 .c
  | .res4D => .res 4 .d
  | .res4E => .res 4 .e
  | .res4H => .res 4 .h
  | .res4L => .res 4 .l
  | .res4AtHl => .resHl 4
  | .res4A => .res 4 .a
  | .res5B => .res 5 .b
  | .res5C => .res 5 .c
  | .res5D => .res 5 .d
  | .res5E => .res 5 .e
  | .res5H => .res 5 .h
  | .res5L => .res 5 .l
  | .res5AtHl => .resHl 5
  | .res5A => .res 5 .a
  | .res6B => .res 6 .b
  | .res6C => .res 6 .c
  | .res6D => .res 6 .d
  | .res6E => .res 6 .e
  | .res6H => .res 6 .h
  | .res6L => .res 6 .l
  | .res6AtHl => .resHl 6
  | .res6A => .res 6 .a
  | .res7B => .res 7 .b
  | .res7C => .res 7 .c
  | .res7D => .res 7 .d
  | .res7E => .res 7 .e
  | .res7H => .res 7 .h
  | .res7L => .res 7 .l
  | .res7AtHl => .resHl 7
  | .res7A => .res 7 .a
  | .set0B => .set 0 .b
  | .set0C => .set 0 .c
  | .set0D => .set 0 .d
  | .set0E => .set 0 .e
  | .set0H => .set 0 .h
  | .set0L => .set 0 .l
  | .set0AtHl => .setHl 0
  | .set0A => .set 0 .a
  | .set1B => .set 1 .b
  | .set1C => .set 1 .c
  | .set1D => .set 1 .d
  | .set1E => .set 1 .e
  | .set1H => .set 1 .h
  | .set1L => .set 1 .l
  | .set1AtHl => .setHl 1
  | .set1A => .set 1 .a
  | .set2B => .set 2 .b
  | .set2C => .set 2 .c
  | .set2D => .set 2 .d
  | .set2E => .set 2 .e
  | .set2H => .set 2 .h
  | .set2L => .set 2 .l
  | .set2AtHl => .setHl 2
  | .set2A => .set 2 .a
  | .set3B => .set 3 .b
  | .set3C => .set 3 .c
  | .set3D => .set 3 .d
  | .set3E => .set 3 .e
  | .set3H => .set 3 .h
  | .set3L => .set 3 .l
  | .set3AtHl => .setHl 3
  | .set3A => .set 3 .a
  | .set4B => .set 4 .b
  | .set4C => .set 4 .c
  | .set4D => .set 4 .d
  | .set4E => .set 4 .e
  | .set4H => .set 4 .h
  | .set4L => .set 4 .l
  | .set4AtHl => .setHl 4
  | .set4A => .set 4 .a
  | .set5B => .set 5 .b
  | .set5C => .set 5 .c
  | .set5D => .set 5 .d
  | .set5E => .set 5 .e
  | .set5H => .set 5 .h
  | .set5L => .set 5 .l
  | .set5AtHl => .setHl 5
  | .set5A => .set 5 .a
  | .set6B => .set 6 .b
  | .set6C => .set 6 .c
  | .set6D => .set 6 .d
  | .set6E => .set 6 .e
  | .set6H => .set 6 .h
  | .set6L => .set 6 .l
  | .set6AtHl => .setHl 6
  | .set6A => .set 6 .a
  | .set7B => .set 7 .b
  | .set7C => .set 7 .c
  | .set7D => .set 7 .d
  | .set7E => .set 7 .e
  | .set7H => .set 7 .h
  | .set7L => .set 7 .l
  | .set7AtHl => .setHl 7
  | .set7A => .set 7 .a

end Sys2Proof
end

