-- ==== Sys2Proof/Laws/Catalog.lean ====
section
/-! SUPPORT. The catalog and the typed instructions: each instruction's struct leads back to it, and the classes and lengths of
the descriptors (10_state.md R31, R33). -/

namespace Sys2Proof

@[simp] theorem loByte_zext16 (v : Byte) : loByte (zext16 v) = v := by
  apply BitVec.eq_of_toNat_eq
  have h := v.isLt
  simp only [loByte, zext16, BitVec.extractLsb'_toNat, BitVec.toNat_setWidth]
  omega

/-- The struct of an instruction gives it back (10_state.md R33). -/
theorem Instr.toInstr_toRaw (i : Instr) : i.toRaw.toInstr = i := by
  cases i.shape
  case alu a x =>
    rcases x with r | _ | n
    · cases a <;> cases r <;> rfl
    · cases a <;> rfl
    · cases a <;> exact congrArg _ (loByte_zext16 n)
  case ldReg r r' => cases r <;> cases r' <;> rfl
  case ldImm r n => cases r <;> exact congrArg _ (loByte_zext16 n)
  case ldPair p w => cases p <;> rfl
  case jpCond cc w => cases cc <;> rfl
  case jrCond cc n => cases cc <;> exact congrArg _ (loByte_zext16 n)
  case callCond cc w => cases cc <;> rfl
  case rot o r => cases o <;> cases r <;> rfl
  case bit b r => cases r <;> fin_cases b <;> rfl
  case res b r => cases r <;> fin_cases b <;> rfl
  case set b r => cases r <;> fin_cases b <;> rfl
  case incReg r => cases r <;> rfl
  case decReg r => cases r <;> rfl
  case addHl p => cases p <;> rfl
  case incPair p => cases p <;> rfl
  case decPair p => cases p <;> rfl
  case ldFromHl r => cases r <;> rfl
  case ldToHl r => cases r <;> rfl
  case push q => cases q <;> rfl
  case pop q => cases q <;> rfl
  case retCond cc => cases cc <;> rfl
  case rst t => fin_cases t <;> rfl
  case rotHl o => cases o <;> rfl
  case bitHl b => fin_cases b <;> rfl
  case resHl b => fin_cases b <;> rfl
  case setHl b => fin_cases b <;> rfl
  case illegal h => cases h <;> rfl
  all_goals first
    | rfl
    | exact congrArg _ (loByte_zext16 _)

/-- A raw operand read as its kind: nothing for `none`, the low byte for `u8` and `s8`. -/
def OperandKind.canon : OperandKind → Word → Word
  | .none, _ => 0
  | .u8, v => zext16 (loByte v)
  | .s8, v => zext16 (loByte v)
  | .u16, v => v

/-- Every byte is a number below 256: a statement about all bytes is one about those numbers. -/
theorem forall_byte {P : Byte → Prop} (h : ∀ n : Fin 256, P (BitVec.ofFin n)) (b : Byte) : P b := h b.toFin

/-- The instruction of a struct has that struct's tag, and its operand read as its kind (10_state.md R33). -/
theorem RawInstr.toRaw_toInstr (ext : Bool) (op : Byte) (v0 v1 : Word) :
    (RawInstr.toInstr ⟨ext, op, v0, v1⟩).toRaw = ⟨ext, op, (lookup [] ext op).k0.canon v0, 0⟩ := by
  revert op
  apply forall_byte
  intro n
  cases ext <;> fin_cases n <;> rfl

end Sys2Proof
end

