-- ==== Sys2Proof/Laws/State.lean ====
section
/-! SUPPORT. One lemma per field per update of the state, so that no proof unfolds a record update; the accessors after an update
that leaves what they read alone. -/

namespace Sys2Proof.Machine

/-! ### `setF` -/

@[simp] theorem State.setF_a (s : State) (v : Byte) : (s.setF v).a = s.a := rfl
@[simp] theorem State.setF_b (s : State) (v : Byte) : (s.setF v).b = s.b := rfl
@[simp] theorem State.setF_c (s : State) (v : Byte) : (s.setF v).c = s.c := rfl
@[simp] theorem State.setF_d (s : State) (v : Byte) : (s.setF v).d = s.d := rfl
@[simp] theorem State.setF_e (s : State) (v : Byte) : (s.setF v).e = s.e := rfl
@[simp] theorem State.setF_h (s : State) (v : Byte) : (s.setF v).h = s.h := rfl
@[simp] theorem State.setF_l (s : State) (v : Byte) : (s.setF v).l = s.l := rfl
@[simp] theorem State.setF_f (s : State) (v : Byte) : (s.setF v).f = v &&& 0xF0 := rfl
@[simp] theorem State.setF_sp (s : State) (v : Byte) : (s.setF v).sp = s.sp := rfl
@[simp] theorem State.setF_pc (s : State) (v : Byte) : (s.setF v).pc = s.pc := rfl
@[simp] theorem State.setF_st (s : State) (v : Byte) : (s.setF v).st = s.st := rfl
@[simp] theorem State.setF_err (s : State) (v : Byte) : (s.setF v).err = s.err := rfl
@[simp] theorem State.setF_cyc (s : State) (v : Byte) : (s.setF v).cyc = s.cyc := rfl
@[simp] theorem State.setF_mem (s : State) (v : Byte) : (s.setF v).mem = s.mem := rfl
@[simp] theorem State.setF_memSize (s : State) (v : Byte) : (s.setF v).memSize = s.memSize := rfl
@[simp] theorem State.setF_extAbsent (s : State) (v : Byte) : (s.setF v).extAbsent = s.extAbsent := rfl

/-! ### `setFlags` -/

@[simp] theorem State.setFlags_a (s : State) (z n h c : Bool) : (s.setFlags z n h c).a = s.a := rfl
@[simp] theorem State.setFlags_b (s : State) (z n h c : Bool) : (s.setFlags z n h c).b = s.b := rfl
@[simp] theorem State.setFlags_c (s : State) (z n h c : Bool) : (s.setFlags z n h c).c = s.c := rfl
@[simp] theorem State.setFlags_d (s : State) (z n h c : Bool) : (s.setFlags z n h c).d = s.d := rfl
@[simp] theorem State.setFlags_e (s : State) (z n h c : Bool) : (s.setFlags z n h c).e = s.e := rfl
@[simp] theorem State.setFlags_h (s : State) (z n h c : Bool) : (s.setFlags z n h c).h = s.h := rfl
@[simp] theorem State.setFlags_l (s : State) (z n h c : Bool) : (s.setFlags z n h c).l = s.l := rfl
@[simp] theorem State.setFlags_f (s : State) (z n h c : Bool) : (s.setFlags z n h c).f = packFlags z n h c &&& 0xF0 := rfl
@[simp] theorem State.setFlags_sp (s : State) (z n h c : Bool) : (s.setFlags z n h c).sp = s.sp := rfl
@[simp] theorem State.setFlags_pc (s : State) (z n h c : Bool) : (s.setFlags z n h c).pc = s.pc := rfl
@[simp] theorem State.setFlags_st (s : State) (z n h c : Bool) : (s.setFlags z n h c).st = s.st := rfl
@[simp] theorem State.setFlags_err (s : State) (z n h c : Bool) : (s.setFlags z n h c).err = s.err := rfl
@[simp] theorem State.setFlags_cyc (s : State) (z n h c : Bool) : (s.setFlags z n h c).cyc = s.cyc := rfl
@[simp] theorem State.setFlags_mem (s : State) (z n h c : Bool) : (s.setFlags z n h c).mem = s.mem := rfl
@[simp] theorem State.setFlags_memSize (s : State) (z n h c : Bool) : (s.setFlags z n h c).memSize = s.memSize := rfl
@[simp] theorem State.setFlags_extAbsent (s : State) (z n h c : Bool) : (s.setFlags z n h c).extAbsent = s.extAbsent := rfl

/-! ### `setBc` -/

@[simp] theorem State.setBc_a (s : State) (v : Word) : (s.setBc v).a = s.a := rfl
@[simp] theorem State.setBc_b (s : State) (v : Word) : (s.setBc v).b = hiByte v := rfl
@[simp] theorem State.setBc_c (s : State) (v : Word) : (s.setBc v).c = loByte v := rfl
@[simp] theorem State.setBc_d (s : State) (v : Word) : (s.setBc v).d = s.d := rfl
@[simp] theorem State.setBc_e (s : State) (v : Word) : (s.setBc v).e = s.e := rfl
@[simp] theorem State.setBc_h (s : State) (v : Word) : (s.setBc v).h = s.h := rfl
@[simp] theorem State.setBc_l (s : State) (v : Word) : (s.setBc v).l = s.l := rfl
@[simp] theorem State.setBc_f (s : State) (v : Word) : (s.setBc v).f = s.f := rfl
@[simp] theorem State.setBc_sp (s : State) (v : Word) : (s.setBc v).sp = s.sp := rfl
@[simp] theorem State.setBc_pc (s : State) (v : Word) : (s.setBc v).pc = s.pc := rfl
@[simp] theorem State.setBc_st (s : State) (v : Word) : (s.setBc v).st = s.st := rfl
@[simp] theorem State.setBc_err (s : State) (v : Word) : (s.setBc v).err = s.err := rfl
@[simp] theorem State.setBc_cyc (s : State) (v : Word) : (s.setBc v).cyc = s.cyc := rfl
@[simp] theorem State.setBc_mem (s : State) (v : Word) : (s.setBc v).mem = s.mem := rfl
@[simp] theorem State.setBc_memSize (s : State) (v : Word) : (s.setBc v).memSize = s.memSize := rfl
@[simp] theorem State.setBc_extAbsent (s : State) (v : Word) : (s.setBc v).extAbsent = s.extAbsent := rfl

/-! ### `setDe` -/

@[simp] theorem State.setDe_a (s : State) (v : Word) : (s.setDe v).a = s.a := rfl
@[simp] theorem State.setDe_b (s : State) (v : Word) : (s.setDe v).b = s.b := rfl
@[simp] theorem State.setDe_c (s : State) (v : Word) : (s.setDe v).c = s.c := rfl
@[simp] theorem State.setDe_d (s : State) (v : Word) : (s.setDe v).d = hiByte v := rfl
@[simp] theorem State.setDe_e (s : State) (v : Word) : (s.setDe v).e = loByte v := rfl
@[simp] theorem State.setDe_h (s : State) (v : Word) : (s.setDe v).h = s.h := rfl
@[simp] theorem State.setDe_l (s : State) (v : Word) : (s.setDe v).l = s.l := rfl
@[simp] theorem State.setDe_f (s : State) (v : Word) : (s.setDe v).f = s.f := rfl
@[simp] theorem State.setDe_sp (s : State) (v : Word) : (s.setDe v).sp = s.sp := rfl
@[simp] theorem State.setDe_pc (s : State) (v : Word) : (s.setDe v).pc = s.pc := rfl
@[simp] theorem State.setDe_st (s : State) (v : Word) : (s.setDe v).st = s.st := rfl
@[simp] theorem State.setDe_err (s : State) (v : Word) : (s.setDe v).err = s.err := rfl
@[simp] theorem State.setDe_cyc (s : State) (v : Word) : (s.setDe v).cyc = s.cyc := rfl
@[simp] theorem State.setDe_mem (s : State) (v : Word) : (s.setDe v).mem = s.mem := rfl
@[simp] theorem State.setDe_memSize (s : State) (v : Word) : (s.setDe v).memSize = s.memSize := rfl
@[simp] theorem State.setDe_extAbsent (s : State) (v : Word) : (s.setDe v).extAbsent = s.extAbsent := rfl

/-! ### `setHl` -/

@[simp] theorem State.setHl_a (s : State) (v : Word) : (s.setHl v).a = s.a := rfl
@[simp] theorem State.setHl_b (s : State) (v : Word) : (s.setHl v).b = s.b := rfl
@[simp] theorem State.setHl_c (s : State) (v : Word) : (s.setHl v).c = s.c := rfl
@[simp] theorem State.setHl_d (s : State) (v : Word) : (s.setHl v).d = s.d := rfl
@[simp] theorem State.setHl_e (s : State) (v : Word) : (s.setHl v).e = s.e := rfl
@[simp] theorem State.setHl_h (s : State) (v : Word) : (s.setHl v).h = hiByte v := rfl
@[simp] theorem State.setHl_l (s : State) (v : Word) : (s.setHl v).l = loByte v := rfl
@[simp] theorem State.setHl_f (s : State) (v : Word) : (s.setHl v).f = s.f := rfl
@[simp] theorem State.setHl_sp (s : State) (v : Word) : (s.setHl v).sp = s.sp := rfl
@[simp] theorem State.setHl_pc (s : State) (v : Word) : (s.setHl v).pc = s.pc := rfl
@[simp] theorem State.setHl_st (s : State) (v : Word) : (s.setHl v).st = s.st := rfl
@[simp] theorem State.setHl_err (s : State) (v : Word) : (s.setHl v).err = s.err := rfl
@[simp] theorem State.setHl_cyc (s : State) (v : Word) : (s.setHl v).cyc = s.cyc := rfl
@[simp] theorem State.setHl_mem (s : State) (v : Word) : (s.setHl v).mem = s.mem := rfl
@[simp] theorem State.setHl_memSize (s : State) (v : Word) : (s.setHl v).memSize = s.memSize := rfl
@[simp] theorem State.setHl_extAbsent (s : State) (v : Word) : (s.setHl v).extAbsent = s.extAbsent := rfl

/-! ### `setAf` -/

@[simp] theorem State.setAf_a (s : State) (v : Word) : (s.setAf v).a = hiByte v := rfl
@[simp] theorem State.setAf_b (s : State) (v : Word) : (s.setAf v).b = s.b := rfl
@[simp] theorem State.setAf_c (s : State) (v : Word) : (s.setAf v).c = s.c := rfl
@[simp] theorem State.setAf_d (s : State) (v : Word) : (s.setAf v).d = s.d := rfl
@[simp] theorem State.setAf_e (s : State) (v : Word) : (s.setAf v).e = s.e := rfl
@[simp] theorem State.setAf_h (s : State) (v : Word) : (s.setAf v).h = s.h := rfl
@[simp] theorem State.setAf_l (s : State) (v : Word) : (s.setAf v).l = s.l := rfl
@[simp] theorem State.setAf_f (s : State) (v : Word) : (s.setAf v).f = loByte v &&& 0xF0 := rfl
@[simp] theorem State.setAf_sp (s : State) (v : Word) : (s.setAf v).sp = s.sp := rfl
@[simp] theorem State.setAf_pc (s : State) (v : Word) : (s.setAf v).pc = s.pc := rfl
@[simp] theorem State.setAf_st (s : State) (v : Word) : (s.setAf v).st = s.st := rfl
@[simp] theorem State.setAf_err (s : State) (v : Word) : (s.setAf v).err = s.err := rfl
@[simp] theorem State.setAf_cyc (s : State) (v : Word) : (s.setAf v).cyc = s.cyc := rfl
@[simp] theorem State.setAf_mem (s : State) (v : Word) : (s.setAf v).mem = s.mem := rfl
@[simp] theorem State.setAf_memSize (s : State) (v : Word) : (s.setAf v).memSize = s.memSize := rfl
@[simp] theorem State.setAf_extAbsent (s : State) (v : Word) : (s.setAf v).extAbsent = s.extAbsent := rfl

/-! ### `setReg` -/

@[simp] theorem State.setReg_f (s : State) (r : Reg8) (v : Byte) : (s.setReg r v).f = s.f := by cases r <;> rfl
@[simp] theorem State.setReg_sp (s : State) (r : Reg8) (v : Byte) : (s.setReg r v).sp = s.sp := by cases r <;> rfl
@[simp] theorem State.setReg_pc (s : State) (r : Reg8) (v : Byte) : (s.setReg r v).pc = s.pc := by cases r <;> rfl
@[simp] theorem State.setReg_st (s : State) (r : Reg8) (v : Byte) : (s.setReg r v).st = s.st := by cases r <;> rfl
@[simp] theorem State.setReg_err (s : State) (r : Reg8) (v : Byte) : (s.setReg r v).err = s.err := by cases r <;> rfl
@[simp] theorem State.setReg_cyc (s : State) (r : Reg8) (v : Byte) : (s.setReg r v).cyc = s.cyc := by cases r <;> rfl
@[simp] theorem State.setReg_mem (s : State) (r : Reg8) (v : Byte) : (s.setReg r v).mem = s.mem := by cases r <;> rfl
@[simp] theorem State.setReg_memSize (s : State) (r : Reg8) (v : Byte) : (s.setReg r v).memSize = s.memSize := by cases r <;> rfl
@[simp] theorem State.setReg_extAbsent (s : State) (r : Reg8) (v : Byte) : (s.setReg r v).extAbsent = s.extAbsent := by cases r <;> rfl

/-! ### `setPair` -/

@[simp] theorem State.setPair_a (s : State) (p : Pair) (v : Word) : (s.setPair p v).a = s.a := by cases p <;> rfl
@[simp] theorem State.setPair_f (s : State) (p : Pair) (v : Word) : (s.setPair p v).f = s.f := by cases p <;> rfl
@[simp] theorem State.setPair_pc (s : State) (p : Pair) (v : Word) : (s.setPair p v).pc = s.pc := by cases p <;> rfl
@[simp] theorem State.setPair_st (s : State) (p : Pair) (v : Word) : (s.setPair p v).st = s.st := by cases p <;> rfl
@[simp] theorem State.setPair_err (s : State) (p : Pair) (v : Word) : (s.setPair p v).err = s.err := by cases p <;> rfl
@[simp] theorem State.setPair_cyc (s : State) (p : Pair) (v : Word) : (s.setPair p v).cyc = s.cyc := by cases p <;> rfl
@[simp] theorem State.setPair_mem (s : State) (p : Pair) (v : Word) : (s.setPair p v).mem = s.mem := by cases p <;> rfl
@[simp] theorem State.setPair_memSize (s : State) (p : Pair) (v : Word) : (s.setPair p v).memSize = s.memSize := by cases p <;> rfl
@[simp] theorem State.setPair_extAbsent (s : State) (p : Pair) (v : Word) : (s.setPair p v).extAbsent = s.extAbsent := by cases p <;> rfl

/-! ### `setStackPair` -/

@[simp] theorem State.setStackPair_sp (s : State) (p : StackPair) (v : Word) : (s.setStackPair p v).sp = s.sp := by cases p <;> rfl
@[simp] theorem State.setStackPair_pc (s : State) (p : StackPair) (v : Word) : (s.setStackPair p v).pc = s.pc := by cases p <;> rfl
@[simp] theorem State.setStackPair_st (s : State) (p : StackPair) (v : Word) : (s.setStackPair p v).st = s.st := by cases p <;> rfl
@[simp] theorem State.setStackPair_err (s : State) (p : StackPair) (v : Word) : (s.setStackPair p v).err = s.err := by cases p <;> rfl
@[simp] theorem State.setStackPair_cyc (s : State) (p : StackPair) (v : Word) : (s.setStackPair p v).cyc = s.cyc := by cases p <;> rfl
@[simp] theorem State.setStackPair_mem (s : State) (p : StackPair) (v : Word) : (s.setStackPair p v).mem = s.mem := by cases p <;> rfl
@[simp] theorem State.setStackPair_memSize (s : State) (p : StackPair) (v : Word) : (s.setStackPair p v).memSize = s.memSize := by cases p <;> rfl
@[simp] theorem State.setStackPair_extAbsent (s : State) (p : StackPair) (v : Word) : (s.setStackPair p v).extAbsent = s.extAbsent := by cases p <;> rfl

/-! ### `popped` -/

@[simp] theorem State.popped_a (s : State) : s.popped.a = s.a := rfl
@[simp] theorem State.popped_b (s : State) : s.popped.b = s.b := rfl
@[simp] theorem State.popped_c (s : State) : s.popped.c = s.c := rfl
@[simp] theorem State.popped_d (s : State) : s.popped.d = s.d := rfl
@[simp] theorem State.popped_e (s : State) : s.popped.e = s.e := rfl
@[simp] theorem State.popped_h (s : State) : s.popped.h = s.h := rfl
@[simp] theorem State.popped_l (s : State) : s.popped.l = s.l := rfl
@[simp] theorem State.popped_f (s : State) : s.popped.f = s.f := rfl
@[simp] theorem State.popped_sp (s : State) : s.popped.sp = s.sp + 2 := rfl
@[simp] theorem State.popped_pc (s : State) : s.popped.pc = s.pc := rfl
@[simp] theorem State.popped_st (s : State) : s.popped.st = s.st := rfl
@[simp] theorem State.popped_err (s : State) : s.popped.err = s.err := rfl
@[simp] theorem State.popped_cyc (s : State) : s.popped.cyc = s.cyc := rfl
@[simp] theorem State.popped_mem (s : State) : s.popped.mem = s.mem := rfl
@[simp] theorem State.popped_memSize (s : State) : s.popped.memSize = s.memSize := rfl
@[simp] theorem State.popped_extAbsent (s : State) : s.popped.extAbsent = s.extAbsent := rfl

/-! ### `fail` -/

@[simp] theorem State.fail_a (s : State) (x : Err) : (s.fail x).a = s.a := rfl
@[simp] theorem State.fail_b (s : State) (x : Err) : (s.fail x).b = s.b := rfl
@[simp] theorem State.fail_c (s : State) (x : Err) : (s.fail x).c = s.c := rfl
@[simp] theorem State.fail_d (s : State) (x : Err) : (s.fail x).d = s.d := rfl
@[simp] theorem State.fail_e (s : State) (x : Err) : (s.fail x).e = s.e := rfl
@[simp] theorem State.fail_h (s : State) (x : Err) : (s.fail x).h = s.h := rfl
@[simp] theorem State.fail_l (s : State) (x : Err) : (s.fail x).l = s.l := rfl
@[simp] theorem State.fail_f (s : State) (x : Err) : (s.fail x).f = s.f := rfl
@[simp] theorem State.fail_sp (s : State) (x : Err) : (s.fail x).sp = s.sp := rfl
@[simp] theorem State.fail_pc (s : State) (x : Err) : (s.fail x).pc = s.pc := rfl
@[simp] theorem State.fail_st (s : State) (x : Err) : (s.fail x).st = .failed := rfl
@[simp] theorem State.fail_err (s : State) (x : Err) : (s.fail x).err = some x := rfl
@[simp] theorem State.fail_cyc (s : State) (x : Err) : (s.fail x).cyc = s.cyc := rfl
@[simp] theorem State.fail_mem (s : State) (x : Err) : (s.fail x).mem = s.mem := rfl
@[simp] theorem State.fail_memSize (s : State) (x : Err) : (s.fail x).memSize = s.memSize := rfl
@[simp] theorem State.fail_extAbsent (s : State) (x : Err) : (s.fail x).extAbsent = s.extAbsent := rfl

/-! ### `commit` -/

@[simp] theorem commit_a (d : Descriptor) (b : Bool) (s t : State) : (commit d b s t).a = t.a := rfl
@[simp] theorem commit_b (d : Descriptor) (b : Bool) (s t : State) : (commit d b s t).b = t.b := rfl
@[simp] theorem commit_c (d : Descriptor) (b : Bool) (s t : State) : (commit d b s t).c = t.c := rfl
@[simp] theorem commit_d (d : Descriptor) (b : Bool) (s t : State) : (commit d b s t).d = t.d := rfl
@[simp] theorem commit_e (d : Descriptor) (b : Bool) (s t : State) : (commit d b s t).e = t.e := rfl
@[simp] theorem commit_h (d : Descriptor) (b : Bool) (s t : State) : (commit d b s t).h = t.h := rfl
@[simp] theorem commit_l (d : Descriptor) (b : Bool) (s t : State) : (commit d b s t).l = t.l := rfl
@[simp] theorem commit_f (d : Descriptor) (b : Bool) (s t : State) : (commit d b s t).f = t.f := rfl
@[simp] theorem commit_sp (d : Descriptor) (b : Bool) (s t : State) : (commit d b s t).sp = t.sp := rfl
@[simp] theorem commit_err (d : Descriptor) (b : Bool) (s t : State) : (commit d b s t).err = t.err := rfl
@[simp] theorem commit_mem (d : Descriptor) (b : Bool) (s t : State) : (commit d b s t).mem = t.mem := rfl
@[simp] theorem commit_memSize (d : Descriptor) (b : Bool) (s t : State) : (commit d b s t).memSize = t.memSize := rfl
@[simp] theorem commit_extAbsent (d : Descriptor) (b : Bool) (s t : State) : (commit d b s t).extAbsent = t.extAbsent := rfl
@[simp] theorem commit_cyc (d : Descriptor) (b : Bool) (s t : State) :
    (commit d b s t).cyc = s.cyc + BitVec.ofNat 64 (costOf d b) := rfl
@[simp] theorem commit_st (d : Descriptor) (b : Bool) (s t : State) :
    (commit d b s t).st = if d.cls = .halt then .halted else t.st := rfl
@[simp] theorem commit_pc (d : Descriptor) (b : Bool) (s t : State) :
    (commit d b s t).pc = if d.cls = .halt then s.pc else if d.ct then t.pc else s.next d := rfl

/-! ### Registers by number -/

/-- A written register reads back and no other register changes (10_state.md R21). -/
theorem State.reg_setReg (s : State) (r r' : Reg8) (v : Byte) : (s.setReg r v).reg r' = if r' = r then v else s.reg r' := by
  cases r <;> cases r' <;> rfl

@[simp] theorem State.reg_setReg_same (s : State) (r : Reg8) (v : Byte) : (s.setReg r v).reg r = v := by cases r <;> rfl

@[simp] theorem State.reg_setF (s : State) (r : Reg8) (v : Byte) : (s.setF v).reg r = s.reg r := by cases r <;> rfl

@[simp] theorem State.reg_setFlags (s : State) (r : Reg8) (z n h c : Bool) : (s.setFlags z n h c).reg r = s.reg r := by
  cases r <;> rfl

@[simp] theorem State.reg_fail (s : State) (r : Reg8) (x : Err) : (s.fail x).reg r = s.reg r := by cases r <;> rfl

/-! ### Pairs are views (10_state.md R22) -/

@[simp] theorem hiByte_joinBytes (hi lo : Byte) : hiByte (joinBytes hi lo) = hi := by
  apply BitVec.eq_of_toNat_eq
  have h1 := hi.isLt
  have h2 := lo.isLt
  simp only [hiByte, joinBytes, BitVec.extractLsb'_toNat, BitVec.toNat_append, Nat.shiftRight_eq_div_pow,
    Nat.shiftLeft_eq, Nat.mul_comm hi.toNat]
  rw [Nat.mul_comm, ← Nat.shiftLeft_eq, ← Nat.shiftLeft_add_eq_or_of_lt h2, Nat.shiftLeft_eq]
  omega

@[simp] theorem loByte_joinBytes (hi lo : Byte) : loByte (joinBytes hi lo) = lo := by
  apply BitVec.eq_of_toNat_eq
  have h2 := lo.isLt
  simp only [loByte, joinBytes, BitVec.extractLsb'_toNat, BitVec.toNat_append]
  rw [← Nat.shiftLeft_add_eq_or_of_lt h2, Nat.shiftLeft_eq]
  omega

/-- A pair as a number (00_scope.md R8). -/
theorem joinBytes_toNat (hi lo : Byte) : (joinBytes hi lo).toNat = 256 * hi.toNat + lo.toNat := by
  have h2 := lo.isLt
  simp only [joinBytes, BitVec.toNat_append]
  rw [← Nat.shiftLeft_add_eq_or_of_lt h2, Nat.shiftLeft_eq]
  omega

/-- The high byte as a number (00_scope.md R8). -/
theorem hiByte_toNat (w : Word) : (hiByte w).toNat = w.toNat / 256 := by
  have h := w.isLt
  simp only [hiByte, BitVec.extractLsb'_toNat, Nat.shiftRight_eq_div_pow]
  omega

/-- The low byte as a number (00_scope.md R8). -/
theorem loByte_toNat (w : Word) : (loByte w).toNat = w.toNat % 256 := by
  simp only [loByte, BitVec.extractLsb'_toNat]
  omega

@[simp] theorem joinBytes_hi_lo (w : Word) : joinBytes (hiByte w) (loByte w) = w := by
  apply BitVec.eq_of_toNat_eq
  rw [joinBytes_toNat, hiByte_toNat, loByte_toNat]
  omega

@[simp] theorem State.bc_setBc (s : State) (w : Word) : (s.setBc w).bc = w := by simp [State.bc]
@[simp] theorem State.de_setDe (s : State) (w : Word) : (s.setDe w).de = w := by simp [State.de]
@[simp] theorem State.hl_setHl (s : State) (w : Word) : (s.setHl w).hl = w := by simp [State.hl]

@[simp] theorem State.bc_setF (s : State) (v : Byte) : (s.setF v).bc = s.bc := rfl
@[simp] theorem State.de_setF (s : State) (v : Byte) : (s.setF v).de = s.de := rfl
@[simp] theorem State.hl_setF (s : State) (v : Byte) : (s.setF v).hl = s.hl := rfl
@[simp] theorem State.hl_setFlags (s : State) (z n h c : Bool) : (s.setFlags z n h c).hl = s.hl := rfl

/-! ### The errors -/

/-- `fail` writes `ST` and `ERR` and nothing else (60_exceptions.md R366). -/
theorem State.fail_eq (s : State) (x : Err) : s.fail x = { s with st := .failed, err := some x } := rfl

/-! ### The descriptor's length -/

theorem State.next_eq (s : State) (d : Descriptor) : s.next d = s.pc + BitVec.ofNat 16 d.len := rfl

end Sys2Proof.Machine
end

