-- ==== Sys2Proof/Laws/Flags.lean ====
section
/-! SUPPORT. The flags: what a packed flag byte holds, and each named flag after each update (10_state.md R26 to R28). -/

namespace Sys2Proof.Machine

/-- The low nibble of a packed flag byte is zero, so masking it changes nothing (10_state.md R28). -/
@[simp] theorem packFlags_and_f0 (z n h c : Bool) : packFlags z n h c &&& 0xF0#8 = packFlags z n h c := by
  cases z <;> cases n <;> cases h <;> cases c <;> rfl

/-- The low nibble of a packed flag byte (10_state.md R28). -/
@[simp] theorem packFlags_and_0f (z n h c : Bool) : packFlags z n h c &&& 0x0F#8 = 0 := by
  cases z <;> cases n <;> cases h <;> cases c <;> rfl

/-- A masked byte has a zero low nibble (10_state.md R28). -/
@[simp] theorem and_f0_and_0f (v : Byte) : (v &&& 0xF0#8) &&& 0x0F#8 = 0 := by
  rw [BitVec.and_assoc]; exact BitVec.and_zero

/-- Bit 7 of a packed flag byte is Zf (10_state.md R27). -/
@[simp] theorem packFlags_z (z n h c : Bool) : (packFlags z n h c)[7] = z := by
  cases z <;> cases n <;> cases h <;> cases c <;> rfl

/-- Bit 6 of a packed flag byte is Nf (10_state.md R27). -/
@[simp] theorem packFlags_n (z n h c : Bool) : (packFlags z n h c)[6] = n := by
  cases z <;> cases n <;> cases h <;> cases c <;> rfl

/-- Bit 5 of a packed flag byte is Hf (10_state.md R27). -/
@[simp] theorem packFlags_h (z n h c : Bool) : (packFlags z n h c)[5] = h := by
  cases z <;> cases n <;> cases h <;> cases c <;> rfl

/-- Bit 4 of a packed flag byte is Cf (10_state.md R27). -/
@[simp] theorem packFlags_c (z n h c : Bool) : (packFlags z n h c)[4] = c := by
  cases z <;> cases n <;> cases h <;> cases c <;> rfl

/-- `setFlags` writes F and nothing else. -/
theorem State.setFlags_eq (s : State) (z n h c : Bool) : s.setFlags z n h c = { s with f := packFlags z n h c } := by
  simp [State.setFlags, State.setF]

@[simp] theorem State.zf_setFlags (s : State) (z n h c : Bool) : (s.setFlags z n h c).zf = z := by
  rw [State.setFlags_eq]; exact packFlags_z z n h c

@[simp] theorem State.nf_setFlags (s : State) (z n h c : Bool) : (s.setFlags z n h c).nf = n := by
  rw [State.setFlags_eq]; exact packFlags_n z n h c

@[simp] theorem State.hf_setFlags (s : State) (z n h c : Bool) : (s.setFlags z n h c).hf = h := by
  rw [State.setFlags_eq]; exact packFlags_h z n h c

@[simp] theorem State.cf_setFlags (s : State) (z n h c : Bool) : (s.setFlags z n h c).cf = c := by
  rw [State.setFlags_eq]; exact packFlags_c z n h c

@[simp] theorem State.zf_setReg (s : State) (r : Reg8) (v : Byte) : (s.setReg r v).zf = s.zf := by cases r <;> rfl
@[simp] theorem State.nf_setReg (s : State) (r : Reg8) (v : Byte) : (s.setReg r v).nf = s.nf := by cases r <;> rfl
@[simp] theorem State.hf_setReg (s : State) (r : Reg8) (v : Byte) : (s.setReg r v).hf = s.hf := by cases r <;> rfl
@[simp] theorem State.cf_setReg (s : State) (r : Reg8) (v : Byte) : (s.setReg r v).cf = s.cf := by cases r <;> rfl

end Sys2Proof.Machine
end

