-- ==== Sys2Proof/Laws/Memory.lean ====
section
/-! SUPPORT. The memory list: reading after writing, and that every memory operation keeps the canonical form and the range
of addresses (20_memory.md R60, R61, R63). -/

namespace Sys2Proof.Machine

/-! ## The list -/

/-- A cell below every listed address reads as an unlisted one. -/
theorem Memory.read_of_lt (m : Memory) (i : Nat) (h : ∀ cell ∈ m, i < cell.1) : m.read i = Config.unlisted := by
  induction m with
  | nil => rfl
  | cons x rest ih =>
    obtain ⟨k, v⟩ := x
    have hk : i < k := h (k, v) (by simp)
    simp only [Memory.read, if_neg (show ¬k = i by omega)]
    exact ih fun cell hc => h cell (by simp [hc])

/-- A cell that no entry names reads as an unlisted one. -/
theorem Memory.read_of_not_mem (m : Memory) (i : Nat) (h : ∀ cell ∈ m, cell.1 ≠ i) : m.read i = Config.unlisted := by
  induction m with
  | nil => rfl
  | cons x rest ih =>
    obtain ⟨k, v⟩ := x
    have hk : k ≠ i := h (k, v) (by simp)
    simp only [Memory.read, if_neg hk]
    exact ih fun cell hc => h cell (by simp [hc])

/-- The canonical form of a list with a first entry. -/
theorem Memory.wf_cons (k : Nat) (x : Byte) (rest : Memory) :
    Memory.wf ((k, x) :: rest) ↔ (∀ cell ∈ rest, k < cell.1) ∧ x ≠ Config.unlisted ∧ Memory.wf rest := by
  simp only [Memory.wf, List.pairwise_cons, List.mem_cons, forall_eq_or_imp]
  tauto

/-- A written cell reads back; every other cell reads as before. -/
theorem Memory.read_write (m : Memory) (i j : Nat) (v : Byte) (h : m.wf) :
    (m.write i v).read j = if j = i then v else m.read j := by
  induction m with
  | nil =>
    by_cases hv : v = Config.unlisted <;> by_cases hj : j = i <;> simp_all [Memory.write, Memory.read, eq_comm]
  | cons x rest ih =>
    obtain ⟨k, x⟩ := x
    obtain ⟨hk, hx, hr⟩ := (Memory.wf_cons k x rest).1 h
    simp only [Memory.write]
    split
    · rename_i hik
      have hlow : Memory.read ((k, x) :: rest) i = Config.unlisted := by
        apply Memory.read_of_lt
        simp only [List.mem_cons, forall_eq_or_imp]
        exact ⟨hik, fun cell hc => by have := hk cell hc; omega⟩
      split
      · rename_i hv
        by_cases hj : j = i
        · subst hj; simp [hlow, hv]
        · simp [hj]
      · by_cases hj : j = i
        · subst hj; simp [Memory.read]
        · simp [hj, Memory.read, Ne.symm hj]
    · split
      · rename_i hik
        subst hik
        have hlow : Memory.read rest i = Config.unlisted := Memory.read_of_lt rest i hk
        split
        · rename_i hv
          by_cases hj : j = i
          · subst hj; simp [hlow, hv]
          · simp [hj, Memory.read, Ne.symm hj]
        · by_cases hj : j = i
          · subst hj; simp [Memory.read]
          · simp [hj, Memory.read, Ne.symm hj]
      · rename_i hik
        by_cases hj : k = j
        · subst hj; simp [Memory.read, Ne.symm hik]
        · simp [Memory.read, hj, ih hr]

/-- A write changes no other cell, whatever the form of the list. -/
theorem Memory.read_write_ne (m : Memory) (i j : Nat) (v : Byte) (h : j ≠ i) : (m.write i v).read j = m.read j := by
  induction m with
  | nil =>
    simp only [Memory.write]
    split <;> simp [Memory.read, h.symm]
  | cons x rest ih =>
    obtain ⟨k, x⟩ := x
    simp only [Memory.write]
    split
    · split <;> simp [Memory.read, h.symm]
    · split
      · rename_i hik
        subst hik
        split <;> simp [Memory.read, h.symm]
      · simp [Memory.read, ih]

/-- An entry of a written list is an old entry or the cell written. -/
theorem Memory.mem_write (m : Memory) (i : Nat) (v : Byte) (cell : Host.Cell) (h : cell ∈ m.write i v) :
    cell ∈ m ∨ (cell = (i, v) ∧ v ≠ Config.unlisted) := by
  induction m with
  | nil =>
    simp only [Memory.write] at h
    split at h <;> simp_all
  | cons x rest ih =>
    obtain ⟨k, x⟩ := x
    simp only [Memory.write] at h
    split at h
    · split at h <;> simp_all <;> tauto
    · split at h
      · split at h <;> simp_all <;> tauto
      · simp only [List.mem_cons] at h ⊢
        rcases h with h | h
        · simp [h]
        · rcases ih h with h | h
          · simp [h]
          · exact Or.inr h

/-- A write keeps the canonical form. -/
theorem Memory.write_wf (m : Memory) (i : Nat) (v : Byte) (h : m.wf) : (m.write i v).wf := by
  induction m with
  | nil =>
    simp only [Memory.write]
    split
    · simp [Memory.wf]
    · rename_i hv; simp [Memory.wf, hv]
  | cons x rest ih =>
    obtain ⟨k, x⟩ := x
    have hall := h
    obtain ⟨hk, hx, hr⟩ := (Memory.wf_cons k x rest).1 h
    simp only [Memory.write]
    split
    · rename_i hik
      split
      · exact hall
      · rename_i hv
        rw [Memory.wf_cons]
        refine ⟨?_, hv, hall⟩
        simp only [List.mem_cons, forall_eq_or_imp]
        exact ⟨hik, fun cell hc => by have := hk cell hc; omega⟩
    · split
      · rename_i hik
        split
        · exact hr
        · rename_i hv
          rw [Memory.wf_cons]
          exact ⟨hk, hv, hr⟩
      · rename_i h1 h2
        rw [Memory.wf_cons]
        refine ⟨fun cell hc => ?_, hx, ih hr⟩
        rcases Memory.mem_write rest i v cell hc with hc | ⟨hc, -⟩
        · exact hk cell hc
        · subst hc; show k < i; omega

/-- Two canonical memories that read the same everywhere are the same list. -/
theorem Memory.ext (m m' : Memory) (h : m.wf) (h' : m'.wf) (hr : ∀ i, m.read i = m'.read i) : m = m' := by
  induction m generalizing m' with
  | nil =>
    cases m' with
    | nil => rfl
    | cons y rest' =>
      obtain ⟨k', x'⟩ := y
      obtain ⟨-, hx', -⟩ := (Memory.wf_cons k' x' rest').1 h'
      have h0 := hr k'
      simp [Memory.read] at h0
      exact absurd h0.symm hx'
  | cons y rest ih =>
    obtain ⟨k, x⟩ := y
    obtain ⟨hk, hx, hw⟩ := (Memory.wf_cons k x rest).1 h
    cases m' with
    | nil =>
      have h0 := hr k
      simp [Memory.read] at h0
      exact absurd h0 hx
    | cons y' rest' =>
      obtain ⟨k', x'⟩ := y'
      obtain ⟨hk', hx', hw'⟩ := (Memory.wf_cons k' x' rest').1 h'
      have hkk : k = k' := by
        rcases Nat.lt_trichotomy k k' with hlt | heq | hgt
        · exfalso
          have h0 := hr k
          simp only [Memory.read, if_true, if_neg (show ¬k' = k by omega)] at h0
          rw [Memory.read_of_lt rest' k fun cell hc => by have := hk' cell hc; omega] at h0
          exact hx h0
        · exact heq
        · exfalso
          have h0 := hr k'
          simp only [Memory.read, if_true, if_neg (show ¬k = k' by omega)] at h0
          rw [Memory.read_of_lt rest k' fun cell hc => by have := hk cell hc; omega] at h0
          exact hx' h0.symm
      subst hkk
      have hxx : x = x' := by
        have h0 := hr k
        simpa [Memory.read] using h0
      subst hxx
      congr 1
      refine ih rest' hw hw' fun i => ?_
      by_cases hi : k = i
      · subst hi
        rw [Memory.read_of_lt rest k hk, Memory.read_of_lt rest' k hk']
      · have h0 := hr i
        simpa [Memory.read, hi] using h0

/-! ## The image at reset -/

/-- The entries of an image lie from its first address on and below N, and none equals an unlisted cell. -/
theorem Memory.mem_ofImage (n addr : Nat) (image : List Byte) (cell : Host.Cell) (h : cell ∈ Memory.ofImage n addr image) :
    addr ≤ cell.1 ∧ cell.1 < n ∧ cell.2 ≠ Config.unlisted := by
  induction image generalizing addr with
  | nil => simp [Memory.ofImage] at h
  | cons v rest ih =>
    simp only [Memory.ofImage] at h
    split at h
    · rename_i hv
      rcases List.mem_cons.1 h with h | h
      · subst h; exact ⟨le_rfl, hv⟩
      · have := ih (addr + 1) h
        exact ⟨by omega, this.2⟩
    · have := ih (addr + 1) h
      exact ⟨by omega, this.2⟩

/-- The memory after reset is canonical. -/
theorem Memory.ofImage_wf (n addr : Nat) (image : List Byte) : (Memory.ofImage n addr image).wf := by
  induction image generalizing addr with
  | nil => simp [Memory.ofImage, Memory.wf]
  | cons v rest ih =>
    simp only [Memory.ofImage]
    split
    · rename_i hv
      rw [Memory.wf_cons]
      refine ⟨fun cell hc => ?_, hv.2, ih (addr + 1)⟩
      have := (Memory.mem_ofImage n (addr + 1) rest cell hc).1
      omega
    · exact ih (addr + 1)

/-- A cell of the memory after reset holds the image's byte below N. -/
theorem Memory.read_ofImage (n addr : Nat) (image : List Byte) (i : Nat) (hi : i < n) :
    (Memory.ofImage n addr image).read i = if addr ≤ i then image.getD (i - addr) Config.unlisted else Config.unlisted := by
  induction image generalizing addr with
  | nil => simp [Memory.ofImage, Memory.read]
  | cons v rest ih =>
    have hstep : (Memory.ofImage n (addr + 1) rest).read i =
        if addr + 1 ≤ i then rest.getD (i - (addr + 1)) Config.unlisted else Config.unlisted := ih (addr + 1)
    have hget : addr + 1 ≤ i → (v :: rest).getD (i - addr) Config.unlisted = rest.getD (i - (addr + 1)) Config.unlisted := by
      intro h
      obtain ⟨k, hk⟩ : ∃ k, i = addr + 1 + k := ⟨i - (addr + 1), by omega⟩
      subst hk
      have e1 : addr + 1 + k - addr = k + 1 := by omega
      have e2 : addr + 1 + k - (addr + 1) = k := by omega
      rw [e1, e2]; rfl
    simp only [Memory.ofImage]
    rcases Nat.lt_trichotomy i addr with h | h | h
    · rw [if_neg (show ¬addr ≤ i by omega)]
      split
      · simp only [Memory.read, if_neg (show ¬addr = i by omega), hstep, if_neg (show ¬addr + 1 ≤ i by omega)]
      · rw [hstep, if_neg (show ¬addr + 1 ≤ i by omega)]
    · subst h
      rw [if_pos le_rfl, Nat.sub_self]
      split
      · simp [Memory.read]
      · rename_i hv
        have hv' : v = Config.unlisted := by
          by_contra hne
          exact hv ⟨hi, hne⟩
        rw [hstep, if_neg (by omega)]
        simp [hv']
    · rw [if_pos (show addr ≤ i by omega), hget (by omega)]
      split
      · simp only [Memory.read, if_neg (show ¬addr = i by omega), hstep, if_pos (show addr + 1 ≤ i by omega)]
      · rw [hstep, if_pos (show addr + 1 ≤ i by omega)]

/-! ## Memory in the state -/

/-- Reads at or past N give 0x00 (20_memory.md R61). -/
theorem State.mem8_of_le (s : State) (i : Nat) (h : s.memSize ≤ i) : s.mem8 i = 0 := by
  simp [State.mem8, Nat.not_lt.2 h]

/-- `Mem8` depends on memory and its length alone. -/
theorem State.mem8_congr (s t : State) (i : Nat) (hm : t.mem = s.mem) (hn : t.memSize = s.memSize) : t.mem8 i = s.mem8 i := by
  simp [State.mem8, hm, hn]

/-- `Mem8` after a write below N (20_memory.md R61, R63). -/
theorem State.mem8_write (s t : State) (x : Nat) (v : Byte) (h : s.mem.wf) (hx : x < s.memSize)
    (hm : t.mem = s.mem.write x v) (hn : t.memSize = s.memSize) (i : Nat) : t.mem8 i = if i = x then v else s.mem8 i := by
  simp only [State.mem8, hm, hn, Memory.read_write s.mem x i v h]
  by_cases hi : i = x
  · subst hi; simp [hx]
  · simp [hi]

/-- `MemOk` speaks of memory and its length alone. -/
theorem State.MemOk.congr {s t : State} (h : s.MemOk) (hm : t.mem = s.mem) (hn : t.memSize = s.memSize) : t.MemOk :=
  ⟨hm ▸ h.canonical, by rw [hm, hn]; exact h.inRange, hn ▸ h.sizeBound⟩

/-- A write below N keeps `MemOk`. -/
theorem State.MemOk.write {s t : State} {x : Nat} {v : Byte} (h : s.MemOk) (hx : x < s.memSize)
    (hm : t.mem = s.mem.write x v) (hn : t.memSize = s.memSize) : t.MemOk := by
  refine ⟨hm ▸ Memory.write_wf _ _ _ h.canonical, ?_, hn ▸ h.sizeBound⟩
  rw [hm, hn]
  intro cell hc
  rcases Memory.mem_write _ _ _ _ hc with hc | ⟨hc, -⟩
  · exact h.inRange cell hc
  · subst hc; exact hx

/-- `MemOk` holds after every reset with N in its range. -/
theorem State.memOk_resetWith (n : Nat) (absent image : List Byte) (h : n ≤ Config.memSizeBound) :
    (State.resetWith n absent image).MemOk :=
  ⟨Memory.ofImage_wf n 0 image, fun cell hc => (Memory.mem_ofImage n 0 image cell hc).2.1, h⟩

/-- The memory of `State.reset` is canonical: it lists nothing. -/
theorem State.reset_mem : State.reset.mem = [] := rfl

end Sys2Proof.Machine
end

