-- ==== Sys2Proof/Laws/Ops.lean ====
section
/-! SUPPORT. One lemma per shared operation that says everything it can do: stores, the stack, and the four ends of an
instruction (20_memory.md R63 to R65, 43_stack.md R300, 60_exceptions.md R362). -/

namespace Sys2Proof.Machine

/-! ## Stores -/

/-- A byte store below N writes that cell and nothing else. -/
theorem State.store8_ok (s : State) (x : Word) (v : Byte) (h : x.toNat < s.memSize) :
    s.store8 x v = .ok { s with mem := s.mem.write x.toNat v } := if_pos h

/-- A byte store at or past N raises. -/
theorem State.store8_error (s : State) (x : Word) (v : Byte) (h : s.memSize ≤ x.toNat) : s.store8 x v = .error x :=
  if_neg (Nat.not_lt.2 h)

/-- A word store with both bytes below N writes the low byte, then the high byte. -/
theorem State.store16_ok (s : State) (x v : Word) (h : x.toNat < s.memSize) (h' : (x + 1).toNat < s.memSize) :
    s.store16 x v = .ok { s with mem := (s.mem.write x.toNat (loByte v)).write (x + 1).toNat (hiByte v) } := by
  simp only [State.store16, State.store8_ok s x _ h]
  exact State.store8_ok _ (x + 1) _ h'

/-- A word store whose low byte is out of range raises for the low byte. -/
theorem State.store16_error_low (s : State) (x v : Word) (h : s.memSize ≤ x.toNat) : s.store16 x v = .error x := by
  simp only [State.store16, State.store8_error s x _ h]

/-- A word store whose high byte alone is out of range raises for the high byte. -/
theorem State.store16_error_high (s : State) (x v : Word) (h : x.toNat < s.memSize) (h' : s.memSize ≤ (x + 1).toNat) :
    s.store16 x v = .error (x + 1) := by
  simp only [State.store16, State.store8_ok s x _ h]
  exact State.store8_error _ (x + 1) _ h'

/-- A push with both bytes below N writes the high byte at SP - 1, the low byte at SP - 2, and lowers SP by 2. -/
theorem State.push16_ok (s : State) (v : Word) (h : (s.sp - 1).toNat < s.memSize) (h' : (s.sp - 2).toNat < s.memSize) :
    s.push16 v = .ok { s with
      mem := (s.mem.write (s.sp - 1).toNat (hiByte v)).write (s.sp - 2).toNat (loByte v), sp := s.sp - 2 } := by
  simp only [State.push16, State.store8_ok s _ _ h]
  rw [State.store8_ok { s with mem := s.mem.write (s.sp - 1).toNat (hiByte v) } (s.sp - 2) (loByte v) h']

/-- A push whose high byte is out of range raises for the high byte. -/
theorem State.push16_error_high (s : State) (v : Word) (h : s.memSize ≤ (s.sp - 1).toNat) :
    s.push16 v = .error (s.sp - 1) := by
  simp only [State.push16, State.store8_error s _ _ h]

/-- A push whose low byte alone is out of range raises for the low byte. -/
theorem State.push16_error_low (s : State) (v : Word) (h : (s.sp - 1).toNat < s.memSize)
    (h' : s.memSize ≤ (s.sp - 2).toNat) : s.push16 v = .error (s.sp - 2) := by
  simp only [State.push16, State.store8_ok s _ _ h]
  rw [State.store8_error { s with mem := s.mem.write (s.sp - 1).toNat (hiByte v) } (s.sp - 2) (loByte v) h']

/-! ## What a store may do -/

/-- `t` is `s` but for memory, SP, the general registers, F and pc, and its memory differs at the addresses `xs` only, all of
them below N. -/
structure StoresOnly (s t : State) (xs : List Word) : Prop where
  memSize : t.memSize = s.memSize
  extAbsent : t.extAbsent = s.extAbsent
  st : t.st = s.st
  err : t.err = s.err
  cyc : t.cyc = s.cyc
  below : ∀ x ∈ xs, x.toNat < s.memSize
  none : xs = [] → t.mem = s.mem
  memOk : s.MemOk → t.MemOk
  frame : ∀ k, (∀ x ∈ xs, x.toNat ≠ k) → t.mem.read k = s.mem.read k

/-- A state that differs in registers alone stores nothing. -/
theorem StoresOnly.registers {s t : State} (hm : t.mem = s.mem) (hn : t.memSize = s.memSize) (ha : t.extAbsent = s.extAbsent)
    (hs : t.st = s.st) (he : t.err = s.err) (hc : t.cyc = s.cyc) : StoresOnly s t [] where
  memSize := hn
  extAbsent := ha
  st := hs
  err := he
  cyc := hc
  below := by simp
  none := fun _ => hm
  memOk := fun h => h.congr hm hn
  frame := fun k _ => by rw [hm]

/-- One byte written. -/
theorem StoresOnly.byte {s t : State} {x : Word} {v : Byte} (hx : x.toNat < s.memSize) (hm : t.mem = s.mem.write x.toNat v)
    (hn : t.memSize = s.memSize) (ha : t.extAbsent = s.extAbsent)
    (hs : t.st = s.st) (he : t.err = s.err) (hc : t.cyc = s.cyc) : StoresOnly s t [x] where
  memSize := hn
  extAbsent := ha
  st := hs
  err := he
  cyc := hc
  below := by simpa using hx
  none := by simp
  memOk := fun h => h.write hx hm hn
  frame := fun k hk => by
    rw [hm, Memory.read_write_ne]
    exact fun e => hk x (by simp) e.symm

/-- Two bytes written. -/
theorem StoresOnly.word {s t : State} {x y : Word} {v w : Byte} (hx : x.toNat < s.memSize) (hy : y.toNat < s.memSize)
    (hm : t.mem = (s.mem.write x.toNat v).write y.toNat w)
    (hn : t.memSize = s.memSize) (ha : t.extAbsent = s.extAbsent)
    (hs : t.st = s.st) (he : t.err = s.err) (hc : t.cyc = s.cyc) : StoresOnly s t [x, y] where
  memSize := hn
  extAbsent := ha
  st := hs
  err := he
  cyc := hc
  below := by simp [hx, hy]
  none := by simp
  memOk := fun h => by
    have h1 : State.MemOk { s with mem := s.mem.write x.toNat v } := h.write hx rfl rfl
    exact h1.write (x := y.toNat) (v := w) hy hm hn
  frame := fun k hk => by
    have hkx : ¬k = x.toNat := fun e => hk x (by simp) e.symm
    have hky : ¬k = y.toNat := fun e => hk y (by simp) e.symm
    rw [hm, Memory.read_write_ne _ _ _ _ hky, Memory.read_write_ne _ _ _ _ hkx]

/-! ## The end of an instruction -/

/-- An instruction that cannot raise ends in its commit. -/
theorem retire_eq (d : Descriptor) (s t : State) : retire d s t = .next (commit d true s t) := rfl

/-- An instruction whose store succeeds ends in its commit. -/
theorem retireStore_ok (d : Descriptor) (s t : State) : retireStore d s (.ok t) = .next (commit d true s t) := rfl

/-- An instruction whose store raises ends the run with `StoreOutOfRange`. -/
theorem retireStore_error (d : Descriptor) (s : State) (x : Word) :
    retireStore d s (.error x) = .next (s.fail (.storeOutOfRange x s.pc)) := rfl

/-- A conditional transfer that is taken. -/
theorem retireCond_true (d : Descriptor) (s : State) (r : Except Word State) :
    retireCond d s true r = retireStore d s r := rfl

/-- A conditional transfer that falls through. -/
theorem retireCond_false (d : Descriptor) (s : State) (r : Except Word State) :
    retireCond d s false r = .next (commit d false s { s with pc := s.next d }) := rfl

end Sys2Proof.Machine
end

