-- ==== Sys2Proof/Laws/Exec.lean ====
section
/-! SUPPORT. What an instruction can do, said once for all of them: the five forms of an answer of `exec`, so that no later
proof splits the meanings again. -/

namespace Sys2Proof.Machine

/-- One flag before and after, against one character of the catalog's flag column (30_encoding.md R124). -/
def FlagOk (e : FlagEffect) (old new : Bool) : Prop :=
  match e with
  | .keep => new = old
  | .clear => new = false
  | .set => new = true
  | .computed => True

/-- The effect `t` of an instruction on `s`: it stores to `xs` only, leaves `ST`, `ERR`, `CYC`, keeps `F[3:0]` zero, and obeys the
flag column. -/
structure EffectOf (d : Descriptor) (s t : State) (xs : List Word) : Prop where
  stores : StoresOnly s t xs
  flagsLow : s.f &&& 0x0F#8 = 0 → t.f &&& 0x0F#8 = 0
  z : FlagOk d.flags.z s.zf t.zf
  n : FlagOk d.flags.n s.nf t.nf
  h : FlagOk d.flags.h s.hf t.hf
  c : FlagOk d.flags.c s.cf t.cf

/-- The first address of a list at or past N. -/
def firstBad (s : State) (xs : List Word) : Option Word := xs.find? fun x => decide (s.memSize ≤ x.toNat)

/-- Every form of an answer of `exec i s`. -/
inductive Answers (d : Descriptor) (s : State) (xs : List Word) : Out → Prop where
  | done (t : State) (h : EffectOf d s t xs) (ok : firstBad s xs = none) : Answers d s xs (.next (commit d true s t))
  | storeError (x : Word) (bad : firstBad s xs = some x) : Answers d s xs (.next (s.fail (.storeOutOfRange x s.pc)))
  | fallThrough (ct : d.ct = true) (nostore : xs = []) (cls : d.cls = .normal) :
      Answers d s xs (.next (commit d false s { s with pc := s.next d }))
  | illegal (cls : d.cls = .illegal) (nostore : xs = []) :
      Answers d s xs (.next (s.fail (.unrecognizedOpcode [d.op] s.pc.toNat)))
  | refused (cls : d.cls = .prefixSlot) : Answers d s xs (.refused .prefixSlot)

/-! ## The forms, one lemma each -/

theorem firstBad_nil (s : State) : firstBad s [] = none := rfl

theorem firstBad_one (s : State) (x : Word) : firstBad s [x] = if s.memSize ≤ x.toNat then some x else none := by
  by_cases h : s.memSize ≤ x.toNat <;> simp [firstBad, h]

theorem firstBad_two (s : State) (x y : Word) :
    firstBad s [x, y] = if s.memSize ≤ x.toNat then some x else if s.memSize ≤ y.toNat then some y else none := by
  by_cases h : s.memSize ≤ x.toNat <;> by_cases h' : s.memSize ≤ y.toNat <;> simp [firstBad, h, h']

/-- An instruction that stores nothing. -/
theorem answers_retire {d : Descriptor} {s t : State} (h : EffectOf d s t []) : Answers d s [] (retire d s t) :=
  .done t h rfl

/-- A byte store, of a state `u` that has the length of `s`. -/
theorem answers_store8 {d : Descriptor} {s u : State} {x : Word} {v : Byte} (hn : u.memSize = s.memSize)
    (h : x.toNat < s.memSize → EffectOf d s { u with mem := u.mem.write x.toNat v } [x]) :
    Answers d s [x] (retireStore d s (u.store8 x v)) := by
  by_cases hx : x.toNat < s.memSize
  · rw [State.store8_ok u x v (by omega)]
    exact .done _ (h hx) (by rw [firstBad_one, if_neg (by omega)])
  · rw [State.store8_error u x v (by omega)]
    exact .storeError x (by rw [firstBad_one, if_pos (by omega)])

/-- A byte store at HL that steps HL. -/
theorem answers_storeStep {d : Descriptor} {s : State} {w : Word}
    (h : s.hl.toNat < s.memSize → EffectOf d s (State.setHl { s with mem := s.mem.write s.hl.toNat s.a } w) [s.hl]) :
    Answers d s [s.hl] (retireStore d s (storeStep s w)) := by
  by_cases hx : s.hl.toNat < s.memSize
  · rw [storeStep, State.store8_ok s s.hl s.a hx]
    exact .done _ (h hx) (by rw [firstBad_one, if_neg (by omega)])
  · rw [storeStep, State.store8_error s s.hl s.a (by omega)]
    exact .storeError _ (by rw [firstBad_one, if_pos (by omega)])

/-- A word store. -/
theorem answers_store16 {d : Descriptor} {s : State} {x v : Word}
    (h : x.toNat < s.memSize → (x + 1).toNat < s.memSize →
      EffectOf d s { s with mem := (s.mem.write x.toNat (loByte v)).write (x + 1).toNat (hiByte v) } [x, x + 1]) :
    Answers d s [x, x + 1] (retireStore d s (s.store16 x v)) := by
  by_cases hx : x.toNat < s.memSize
  · by_cases hy : (x + 1).toNat < s.memSize
    · rw [State.store16_ok s x v hx hy]
      exact .done _ (h hx hy) (by rw [firstBad_two, if_neg (by omega), if_neg (by omega)])
    · rw [State.store16_error_high s x v hx (by omega)]
      exact .storeError _ (by rw [firstBad_two, if_neg (by omega), if_pos (by omega)])
  · rw [State.store16_error_low s x v (by omega)]
    exact .storeError _ (by rw [firstBad_two, if_pos (by omega)])

/-- The state after a push with both bytes below N. -/
def pushed (s : State) (v : Word) : State :=
  { s with mem := (s.mem.write (s.sp - 1).toNat (hiByte v)).write (s.sp - 2).toNat (loByte v), sp := s.sp - 2 }

/-- A push. -/
theorem answers_push16 {d : Descriptor} {s : State} {v : Word}
    (h : (s.sp - 1).toNat < s.memSize → (s.sp - 2).toNat < s.memSize → EffectOf d s (pushed s v) s.pushAddrs) :
    Answers d s s.pushAddrs (retireStore d s (s.push16 v)) := by
  by_cases hx : (s.sp - 1).toNat < s.memSize
  · by_cases hy : (s.sp - 2).toNat < s.memSize
    · rw [State.push16_ok s v hx hy]
      exact .done _ (h hx hy) (by rw [State.pushAddrs, firstBad_two, if_neg (by omega), if_neg (by omega)])
    · rw [State.push16_error_low s v hx (by omega)]
      exact .storeError _ (by rw [State.pushAddrs, firstBad_two, if_neg (by omega), if_pos (by omega)])
  · rw [State.push16_error_high s v (by omega)]
    exact .storeError _ (by rw [State.pushAddrs, firstBad_two, if_pos (by omega)])

/-- A push of the next address and a jump. -/
theorem answers_call {d d' : Descriptor} {s : State} {w : Word}
    (h : (s.sp - 1).toNat < s.memSize → (s.sp - 2).toNat < s.memSize →
      EffectOf d s { pushed s (s.next d') with pc := w } s.pushAddrs) :
    Answers d s s.pushAddrs (retireStore d s (call s d' w)) := by
  by_cases hx : (s.sp - 1).toNat < s.memSize
  · by_cases hy : (s.sp - 2).toNat < s.memSize
    · rw [call, State.push16_ok s _ hx hy]
      exact .done _ (h hx hy) (by rw [State.pushAddrs, firstBad_two, if_neg (by omega), if_neg (by omega)])
    · rw [call, State.push16_error_low s _ hx (by omega)]
      exact .storeError _ (by rw [State.pushAddrs, firstBad_two, if_neg (by omega), if_pos (by omega)])
  · rw [call, State.push16_error_high s _ (by omega)]
    exact .storeError _ (by rw [State.pushAddrs, firstBad_two, if_pos (by omega)])

/-- A conditional jump or return. -/
theorem answers_cond {d : Descriptor} {s t : State} {b : Bool} (ct : d.ct = true) (cls : d.cls = .normal)
    (h : EffectOf d s t []) : Answers d s [] (retireCond d s b (.ok t)) := by
  cases b
  · exact .fallThrough ct rfl cls
  · exact .done t h rfl

/-- A conditional call. -/
theorem answers_condCall {d d' : Descriptor} {s : State} {w : Word} {b : Bool} (ct : d.ct = true) (cls : d.cls = .normal)
    (h : (s.sp - 1).toNat < s.memSize → (s.sp - 2).toNat < s.memSize →
      EffectOf d s { pushed s (s.next d') with pc := w } s.pushAddrs) :
    Answers d s (if b then s.pushAddrs else []) (retireCond d s b (call s d' w)) := by
  cases b
  · exact .fallThrough ct rfl cls
  · exact answers_call h

/-! ## The effects -/

/-- An effect that leaves F. -/
theorem EffectOf.plain {d : Descriptor} {s t : State} {xs : List Word} (hd : d.flags = flxxxx) (hs : StoresOnly s t xs)
    (hf : t.f = s.f) : EffectOf d s t xs where
  stores := hs
  flagsLow := by rw [hf]; exact id
  z := by rw [hd]; exact congrArg (·.getLsbD 7) hf
  n := by rw [hd]; exact congrArg (·.getLsbD 6) hf
  h := by rw [hd]; exact congrArg (·.getLsbD 5) hf
  c := by rw [hd]; exact congrArg (·.getLsbD 4) hf

/-- An effect that writes the four flags. -/
theorem EffectOf.flags {d : Descriptor} {s t : State} {xs : List Word} {z n h c : Bool}
    (hf : t.f = packFlags z n h c &&& 0xF0#8) (hs : StoresOnly s t xs)
    (hz : FlagOk d.flags.z s.zf z) (hn : FlagOk d.flags.n s.nf n) (hh : FlagOk d.flags.h s.hf h)
    (hc : FlagOk d.flags.c s.cf c) : EffectOf d s t xs where
  stores := hs
  flagsLow := fun _ => by rw [hf]; simp
  z := by have e : t.zf = z := by simp [State.zf, hf]
          rw [e]; exact hz
  n := by have e : t.nf = n := by simp [State.nf, hf]
          rw [e]; exact hn
  h := by have e : t.hf = h := by simp [State.hf, hf]
          rw [e]; exact hh
  c := by have e : t.cf = c := by simp [State.cf, hf]
          rw [e]; exact hc

/-! ## The instructions -/

/-- An instruction that writes registers alone, F left. -/
theorem answers_plain {d : Descriptor} {s t : State} (hd : d.flags = flxxxx) (hf : t.f = s.f) (hm : t.mem = s.mem)
    (hn : t.memSize = s.memSize) (ha : t.extAbsent = s.extAbsent) (hs : t.st = s.st) (he : t.err = s.err)
    (hc : t.cyc = s.cyc) : Answers d s [] (retire d s t) :=
  answers_retire (.plain hd (.registers hm hn ha hs he hc) hf)

/-- An instruction that writes registers alone, the flags among them. -/
theorem answers_flags {d : Descriptor} {s t : State} {z n h c : Bool} (hf : t.f = packFlags z n h c &&& 0xF0#8)
    (hz : FlagOk d.flags.z s.zf z) (hn : FlagOk d.flags.n s.nf n) (hh : FlagOk d.flags.h s.hf h)
    (hc : FlagOk d.flags.c s.cf c) (hm : t.mem = s.mem) (hl : t.memSize = s.memSize) (ha : t.extAbsent = s.extAbsent)
    (hs : t.st = s.st) (he : t.err = s.err) (hy : t.cyc = s.cyc) : Answers d s [] (retire d s t) :=
  answers_retire (.flags hf (.registers hm hl ha hs he hy) hz hn hh hc)

/-- A byte store after which the flags are written. -/
theorem answers_storeFlags {d : Descriptor} {s u : State} {x : Word} {v : Byte} {z n h c : Bool}
    (hf : u.f = packFlags z n h c &&& 0xF0#8)
    (hz : FlagOk d.flags.z s.zf z) (hn : FlagOk d.flags.n s.nf n) (hh : FlagOk d.flags.h s.hf h)
    (hc : FlagOk d.flags.c s.cf c) (hm : u.mem = s.mem) (hl : u.memSize = s.memSize) (ha : u.extAbsent = s.extAbsent)
    (hs : u.st = s.st) (he : u.err = s.err) (hy : u.cyc = s.cyc) : Answers d s [x] (retireStore d s (u.store8 x v)) :=
  answers_store8 hl fun hx => .flags hf (.byte hx (show u.mem.write x.toNat v = s.mem.write x.toNat v by rw [hm]) hl ha hs he hy) hz hn hh hc

/-- A byte store, F left. -/
theorem answers_store {d : Descriptor} {s : State} {x : Word} {v : Byte} (hd : d.flags = flxxxx) :
    Answers d s [x] (retireStore d s (s.store8 x v)) :=
  answers_store8 rfl fun hx => .plain hd (.byte hx rfl rfl rfl rfl rfl rfl) rfl

theorem answers_alu (a : Alu) (x : Src) (s : State) :
    Answers (Instr.alu a x).desc s ((Instr.alu a x).storesAt s) (exec (.alu a x) s) := by
  cases a <;> (rcases x with r | _ | n) <;> (try cases r) <;>
    exact answers_flags rfl trivial rfl
      (by first | exact rfl | exact trivial) (by first | exact rfl | exact trivial) rfl rfl rfl rfl rfl rfl

theorem answers_incDec (r : Reg8) (s : State) :
    Answers (Instr.incReg r).desc s ((Instr.incReg r).storesAt s) (exec (.incReg r) s) ∧
      Answers (Instr.decReg r).desc s ((Instr.decReg r).storesAt s) (exec (.decReg r) s) := by
  cases r <;> constructor <;>
    exact answers_flags rfl trivial rfl
      trivial rfl rfl rfl rfl rfl rfl rfl

theorem answers_ldReg (r r' : Reg8) (s : State) :
    Answers (Instr.ldReg r r').desc s ((Instr.ldReg r r').storesAt s) (exec (.ldReg r r') s) := by
  cases r <;> cases r' <;> exact answers_plain rfl rfl rfl rfl rfl rfl rfl rfl

theorem answers_rot (o : Rot) (r : Reg8) (s : State) :
    Answers (Instr.rot o r).desc s ((Instr.rot o r).storesAt s) (exec (.rot o r) s) := by
  cases o <;> cases r <;>
    exact answers_flags rfl trivial rfl
      rfl (by first | exact rfl | exact trivial) rfl rfl rfl rfl rfl rfl

theorem answers_bit (b : Fin 8) (r : Reg8) (s : State) :
    Answers (Instr.bit b r).desc s ((Instr.bit b r).storesAt s) (exec (.bit b r) s) := by
  cases r <;> fin_cases b <;>
    exact answers_flags rfl trivial rfl
      rfl rfl rfl rfl rfl rfl rfl rfl

theorem answers_res (b : Fin 8) (r : Reg8) (s : State) :
    Answers (Instr.res b r).desc s ((Instr.res b r).storesAt s) (exec (.res b r) s) := by
  cases r <;> fin_cases b <;> exact answers_plain rfl rfl rfl rfl rfl rfl rfl rfl

theorem answers_set (b : Fin 8) (r : Reg8) (s : State) :
    Answers (Instr.set b r).desc s ((Instr.set b r).storesAt s) (exec (.set b r) s) := by
  cases r <;> fin_cases b <;> exact answers_plain rfl rfl rfl rfl rfl rfl rfl rfl

theorem answers_bitsHl (b : Fin 8) (s : State) :
    Answers (Instr.bitHl b).desc s ((Instr.bitHl b).storesAt s) (exec (.bitHl b) s) ∧
      Answers (Instr.resHl b).desc s ((Instr.resHl b).storesAt s) (exec (.resHl b) s) ∧
      Answers (Instr.setHl b).desc s ((Instr.setHl b).storesAt s) (exec (.setHl b) s) := by
  fin_cases b <;>
    exact ⟨answers_flags rfl trivial rfl
      rfl rfl rfl rfl rfl rfl rfl rfl,
      answers_store rfl, answers_store rfl⟩

theorem answers_rotHl (o : Rot) (s : State) :
    Answers (Instr.rotHl o).desc s ((Instr.rotHl o).storesAt s) (exec (.rotHl o) s) := by
  cases o <;>
    exact answers_storeFlags rfl trivial rfl
      rfl (by first | exact rfl | exact trivial) rfl rfl rfl rfl rfl rfl

theorem answers_pop (q : StackPair) (s : State) :
    Answers (Instr.pop q).desc s ((Instr.pop q).storesAt s) (exec (.pop q) s) := by
  cases q
  case af =>
    refine answers_retire ⟨.registers rfl rfl rfl rfl rfl rfl, fun _ => ?_, trivial, trivial, trivial, trivial⟩
    exact and_f0_and_0f _
  all_goals exact answers_plain rfl rfl rfl rfl rfl rfl rfl rfl

/-- Every instruction answers in one of the five forms. -/
theorem exec_answers (i : Instr) (s : State) : Answers i.desc s (i.storesAt s) (exec i s) := by
  cases i.shape
  case alu a x => exact answers_alu a x s
  case incReg r => exact (answers_incDec r s).1
  case decReg r => exact (answers_incDec r s).2
  case addHl p =>
    cases p <;> exact answers_flags rfl rfl rfl trivial trivial rfl rfl rfl rfl rfl rfl
  case incPair p => cases p <;> exact answers_plain rfl rfl rfl rfl rfl rfl rfl rfl
  case decPair p => cases p <;> exact answers_plain rfl rfl rfl rfl rfl rfl rfl rfl
  case ldReg r r' => exact answers_ldReg r r' s
  case ldImm r n => cases r <;> exact answers_plain rfl rfl rfl rfl rfl rfl rfl rfl
  case ldFromHl r => cases r <;> exact answers_plain rfl rfl rfl rfl rfl rfl rfl rfl
  case ldToHl r => cases r <;> exact answers_store rfl
  case ldPair p w => cases p <;> exact answers_plain rfl rfl rfl rfl rfl rfl rfl rfl
  case push q =>
    cases q <;> exact answers_push16 fun hx hy => .plain rfl (.word hx hy rfl rfl rfl rfl rfl rfl) rfl
  case pop q => exact answers_pop q s
  case jpCond cc w => cases cc <;> exact answers_cond rfl rfl (.plain rfl (.registers rfl rfl rfl rfl rfl rfl) rfl)
  case jrCond cc n => cases cc <;> exact answers_cond rfl rfl (.plain rfl (.registers rfl rfl rfl rfl rfl rfl) rfl)
  case retCond cc => cases cc <;> exact answers_cond rfl rfl (.plain rfl (.registers rfl rfl rfl rfl rfl rfl) rfl)
  case callCond cc w =>
    cases cc <;> exact answers_condCall rfl rfl fun hx hy => .plain rfl (.word hx hy rfl rfl rfl rfl rfl rfl) rfl
  case rst t => fin_cases t <;> exact answers_call fun hx hy => .plain rfl (.word hx hy rfl rfl rfl rfl rfl rfl) rfl
  case rot o r => exact answers_rot o r s
  case rotHl o => exact answers_rotHl o s
  case bit b r => exact answers_bit b r s
  case res b r => exact answers_res b r s
  case set b r => exact answers_set b r s
  case bitHl b => exact (answers_bitsHl b s).1
  case resHl b => exact (answers_bitsHl b s).2.1
  case setHl b => exact (answers_bitsHl b s).2.2
  case illegal h => cases h <;> exact .illegal rfl rfl
  case callA16 w => exact answers_call fun hx hy => .plain rfl (.word hx hy rfl rfl rfl rfl rfl rfl) rfl
  case ldAtA16Sp w => exact answers_store16 fun hx hy => .plain rfl (.word hx hy rfl rfl rfl rfl rfl rfl) rfl
  case prefixCb => exact .refused rfl
  case ldAtHlIncA => exact answers_storeStep fun hx => .plain rfl (.byte hx rfl rfl rfl rfl rfl rfl) rfl
  case ldAtHlDecA => exact answers_storeStep fun hx => .plain rfl (.byte hx rfl rfl rfl rfl rfl rfl) rfl
  all_goals first
    | exact answers_plain rfl rfl rfl rfl rfl rfl rfl rfl
    | exact answers_store rfl
    | exact answers_flags rfl (by first | exact rfl | exact trivial) rfl (by first | exact rfl | exact trivial)
        (by first | exact rfl | exact trivial) rfl rfl rfl rfl rfl rfl
    | exact answers_storeFlags rfl trivial rfl trivial rfl rfl rfl rfl rfl rfl rfl

end Sys2Proof.Machine
end

