-- ==== Sys2Proof/Laws/Rendering.lean ====
section
/-! SUPPORT. What rendering gives: the digits of a number, a signed operand, each textual operand that holds a placeholder
(30_encoding.md R126 to R128). -/

namespace Sys2Proof

theorem toNat_zext16 (v : Byte) : (zext16 v).toNat = v.toNat := by
  have h := v.isLt
  simp only [zext16, BitVec.toNat_setWidth]
  omega

/-- Four digits, most significant first (30_encoding.md R127). -/
theorem hex4_digits (v : Nat) :
    hex4 v = hexDigit (v / 4096) ++ hexDigit (v / 256 % 16) ++ hexDigit (v / 16 % 16) ++ hexDigit (v % 16) := by
  have h1 : v / 256 / 16 = v / 4096 := by omega
  have h2 : v % 256 / 16 = v / 16 % 16 := by omega
  have h3 : v % 256 % 16 = v % 16 := by omega
  simp only [hex4, hex2, h1, h2, h3, String.append_assoc]

/-- A signed operand: `-` and the magnitude from 128 up, the two digits below (30_encoding.md R128). -/
theorem signedHex_eq (v : Byte) :
    signedHex v = if 128 ≤ v.toNat then "-" ++ hex2 (256 - v.toNat) else hex2 v.toNat := by
  have hv := v.isLt
  by_cases h : 128 ≤ v.toNat
  · have e : sext8 v = (v.toNat : Int) - 256 := by rw [sext8, if_neg (by omega)]
    have m : ((v.toNat : Int) - 256).natAbs = 256 - v.toNat := by omega
    rw [signedHex, e, if_pos (by omega), if_pos h, m]
  · have e : sext8 v = (v.toNat : Int) := by rw [sext8, if_pos (by omega)]
    rw [signedHex, e, if_neg (by omega), if_neg h, Int.natAbs_natCast]

theorem renderWord_d8 (v : Byte) : renderWord "d8" (zext16 v) = hex2 v.toNat := congrArg hex2 (toNat_zext16 v)

theorem renderWord_a8 (v : Byte) : renderWord "(a8)" (zext16 v) = "(" ++ hex2 v.toNat ++ ")" :=
  congrArg (fun k => "(" ++ hex2 k ++ ")") (toNat_zext16 v)

theorem renderWord_r8 (v : Byte) : renderWord "r8" (zext16 v) = signedHex v := congrArg signedHex (loByte_zext16 v)

theorem renderWord_spR8 (v : Byte) : renderWord "SP+r8" (zext16 v) = "SP+" ++ signedHex v :=
  congrArg (fun x => "SP+" ++ signedHex x) (loByte_zext16 v)

theorem renderWord_d16 (v : Word) : renderWord "d16" v = hex4 v.toNat := rfl

theorem renderWord_a16 (v : Word) : renderWord "a16" v = hex4 v.toNat := rfl

theorem renderWord_atA16 (v : Word) : renderWord "(a16)" v = "(" ++ hex4 v.toNat ++ ")" := rfl

end Sys2Proof
end

