-- ==== Sys2Proof/Laws/Step.lean ====
section
/-! SUPPORT. What a step can do, said once, and that placing code keeps the memory canonical. -/

namespace Sys2Proof.Machine

/-- Every way a step answers a next state (60_exceptions.md R361, R362, R364, R371, R372). -/
theorem step_cases {s t : State} (h : step s = .next t) :
    (s.st ≠ .running ∧ t = s) ∨
    (s.st = .running ∧ s.memSize ≤ s.pc.toNat ∧ t = s.fail (.memoryOverrun s.pc)) ∨
    (s.st = .running ∧ s.pc.toNat < s.memSize ∧ ∃ e, fetch s = .error e ∧ t = s.fail e) ∨
    (s.st = .running ∧ s.pc.toNat < s.memSize ∧ ∃ i n, fetch s = .ok (i, n) ∧ exec i s = .next t) := by
  unfold step at h
  split at h
  · rename_i hr
    split at h
    · rename_i hle
      cases h
      exact .inr (.inl ⟨hr, hle, rfl⟩)
    · rename_i hle
      split at h
      · rename_i e he
        cases h
        exact .inr (.inr (.inl ⟨hr, by omega, e, he, rfl⟩))
      · rename_i i n he
        exact .inr (.inr (.inr ⟨hr, by omega, i, n, he, h⟩))
  · rename_i hr
    cases h
    exact .inl ⟨hr, rfl⟩

/-- Placing bytes keeps `MemOk` and the length of memory. -/
theorem placeBytes_memOk (s : State) (i : Nat) (bs : List Byte) (h : s.MemOk) : (placeBytes s i bs).MemOk := by
  induction bs generalizing s i with
  | nil => exact h
  | cons v rest ih =>
    simp only [placeBytes]
    refine ih _ _ ?_
    split
    · rename_i hi
      exact h.write (x := i) (v := v) hi rfl rfl
    · exact h

/-- Placing the next instruction keeps `MemOk`. -/
theorem placeCode_memOk (s : State) (bs : List Byte) (h : s.MemOk) : (placeCode s bs).MemOk := by
  refine placeBytes_memOk _ _ _ ⟨h.canonical, fun cell hc => ?_, ?_⟩
  · have := h.inRange cell hc
    show cell.1 < max s.memSize _
    omega
  · have := h.sizeBound
    show max s.memSize (min _ Config.memSizeBound) ≤ Config.memSizeBound
    omega

end Sys2Proof.Machine
end

