-- ==== Sys2Proof/Tests/Slice0.lean ====
section
/-! SUPPORT. Tests of the model, and for every statement with hypotheses a concrete state that meets them. Expected values come from the
spec: the bit fields of 30_encoding.md R96 to R99, and the vectors of 95_test_vectors.md, whose numbers are cited. -/

namespace Sys2Proof.Tests

open Sys2Proof Sys2Proof.Machine

/-! ## Helpers -/

/-- A machine of `n` bytes of memory after reset, the image at address 0. -/
def machine (n : Nat) (image : List Byte) : State := State.resetWith n [] image

/-- One memory byte replaced. -/
def put (s : State) (i : Nat) (v : Byte) : State := { s with mem := s.mem.write i v }

/-- The state of an answer, or the given one when the answer is no next state. -/
def stateOf (o : Out) (s : State) : State :=
  match o with
  | .next t => t
  | _ => s

/-- The state after one step. -/
def after (s : State) : State := stateOf (step s) s

/-! ## WellFormed refuses (30_encoding.md R112; TE22 to TE26) -/

theorem test_wf_refuses_prefix_slot : RawInstr.wellFormed [] ⟨false, 0xCB, 0, 0⟩ = false := by decide
theorem test_wf_refuses_wide_u8 : RawInstr.wellFormed [] ⟨false, 0x06, 0x01AA, 0⟩ = false := by decide
theorem test_wf_refuses_wide_s8 : RawInstr.wellFormed [] ⟨false, 0x18, 0xFFFE, 0⟩ = false := by decide
theorem test_wf_refuses_operand_of_none : RawInstr.wellFormed [] ⟨false, 0x81, 1, 0⟩ = false := by decide
theorem test_wf_refuses_second_operand : RawInstr.wellFormed [] ⟨false, 0x01, 0x1234, 1⟩ = false := by decide
theorem test_wf_refuses_absent_selector : RawInstr.wellFormed [0x40] ⟨true, 0x40, 0, 0⟩ = false := by decide
theorem test_wf_refuses_absent_typed : Instr.wellFormed [0x40] .bit0B = false := by decide
theorem test_wf_refuses_prefix_typed : Instr.wellFormed [] .prefixCb = false := by decide
theorem test_wf_takes_u16 : RawInstr.wellFormed [0x40] ⟨false, 0x01, 0xFFFF, 0⟩ = true := by decide
theorem test_encode_refuses_ill_formed : encodeRaw [] ⟨false, 0x06, 0x01AA, 0⟩ = none := by decide

/-! ## Decoding words written out from the fields `xx yyy zzz` (30_encoding.md R96 to R99) -/

/-- What the decoder reads at position 0 of a stream. -/
def reads (bs : List Byte) : Option (Instr × Nat) :=
  match decode [] (streamSource bs) 0 with
  | .ok r => some r
  | .error _ => none

theorem test_decode_alu : reads [0b10_011_101#8] = some (.sbcAL, 1) := by decide
theorem test_decode_alu_memory : reads [0b10_101_110#8] = some (.xorAtHl, 1) := by decide
theorem test_decode_alu_immediate : reads [0b11_111_110#8, 0x3C] = some (.cpD8 0x3C, 2) := by decide
theorem test_decode_inc_dec : reads [0b00_100_100#8] = some (.incH, 1) ∧ reads [0b00_110_101#8] = some (.decAtHl, 1) := by decide
theorem test_decode_pair_arithmetic : reads [0b00_11_1_001#8] = some (.addHlSp, 1) ∧ reads [0b00_01_1_011#8] = some (.decDe, 1) := by
  decide
theorem test_decode_add_sp : reads [0b11_101_000#8, 0x80] = some (.addSpR8 0x80, 2) := by decide
theorem test_decode_accumulator : reads [0b00_010_111#8] = some (.rlAcc, 1) ∧ reads [0b00_100_111#8] = some (.daa, 1) := by decide
theorem test_decode_load : reads [0b01_000_001#8] = some (.ldBC, 1) ∧ reads [0b01_110_100#8] = some (.ldAtHlH, 1) := by decide
theorem test_decode_load_immediate : reads [0b00_110_110#8, 0x99] = some (.ldAtHlD8 0x99, 2) := by decide
theorem test_decode_load_pair : reads [0b00_11_0_001#8, 0xFE, 0xFF] = some (.ldSpD16 0xFFFE, 3) := by decide
theorem test_decode_store_sp : reads [0b00_001_000#8, 0x00, 0x10] = some (.ldAtA16Sp 0x1000, 3) := by decide
theorem test_decode_load_indirect : reads [0b00_11_0_010#8] = some (.ldAtHlDecA, 1) ∧ reads [0b00_00_1_010#8] = some (.ldAAtBc, 1) := by
  decide
theorem test_decode_high_page : reads [0b11_110_000#8, 0x44] = some (.ldhAAtA8 0x44, 2) ∧ reads [0b11_100_010#8] = some (.ldAtCA, 1) := by
  decide
theorem test_decode_rotate : reads [0xCB, 0b00_110_101#8] = some (.swapL, 2) ∧ reads [0xCB, 0b00_001_110#8] = some (.rrcAtHl, 2) := by
  decide
theorem test_decode_bit : reads [0xCB, 0b01_100_101#8] = some (.bit4L, 2) := by decide
theorem test_decode_res_set : reads [0xCB, 0b10_011_110#8] = some (.res3AtHl, 2) ∧ reads [0xCB, 0b11_001_011#8] = some (.set1E, 2) := by
  decide
theorem test_decode_stack : reads [0b11_11_0_001#8] = some (.popAf, 1) ∧ reads [0b11_10_0_101#8] = some (.pushHl, 1) := by decide
theorem test_decode_jump : reads [0b11_011_010#8, 0x00, 0x80] = some (.jpCA16 0x8000, 3) ∧
    reads [0b00_100_000#8, 0xFC] = some (.jrNzR8 0xFC, 2) := by decide
theorem test_decode_call : reads [0b11_00_1_101#8, 0x34, 0x12] = some (.callA16 0x1234, 3) ∧
    reads [0b11_010_100#8, 0x34, 0x12] = some (.callNcA16 0x1234, 3) := by decide
theorem test_decode_return : reads [0b11_000_000#8] = some (.retNz, 1) ∧ reads [0b11_01_1_001#8] = some (.reti, 1) := by decide
theorem test_decode_restart : reads [0b11_101_111#8] = some (.rst28, 1) := by decide
theorem test_decode_system : reads [0b00_010_000#8] = some (.stop0, 1) ∧ reads [0b01_110_110#8] = some (.halt, 1) ∧
    reads [0b11_110_011#8] = some (.di, 1) := by decide
theorem test_decode_illegal : reads [0b11_010_011#8] = some (.illegalD3, 1) ∧ reads [0b11_111_101#8] = some (.illegalFD, 1) := by decide
/-- TD22 to TD24: CB is a prefix in first position only. -/
theorem test_decode_prefix_once : reads [0xCB, 0xCB] = some (.set1E, 2) ∧ reads [0x06, 0xCB] = some (.ldBD8 0xCB, 2) ∧
    reads [0xCB, 0x06] = some (.rlcAtHl, 2) := by decide
/-- TD04, TD07, TD11, TD13. -/
theorem test_decode_errors : decode [] (streamSource [0xCB]) 0 = .error (.streamEnded 0) ∧
    decode [] (streamSource [0x01, 0x34]) 0 = .error (.truncatedOperand 0 [0x01]) ∧
    decode [0x40] (streamSource [0xCB, 0x40]) 0 = .error (.unrecognizedOpcode [0xCB, 0x40] 0) ∧
    decode [0x40] (streamSource [0x40]) 0 = .ok (.ldBB, 1) := ⟨rfl, rfl, rfl, rfl⟩
/-- The numbering of table words (log 10). -/
theorem test_table_words : decodeTableWord 16 0xCB40 = some .bit0B ∧ decodeTableWord 8 0xC3 = some (.jpA16 0) ∧
    decodeTableWord 24 0x1234C3 = some (.jpA16 0x1234) ∧ decodeTableWord 16 0xFFC6 = some (.addAD8 0xFF) := by decide
/-- A table word placed where the next step fetches runs (log 11). -/
theorem test_fetch_word : (after (State.reset.withFetchWord 16 0xCB40)).f = 0xA0 ∧ (after (State.reset.withFetchWord 8 0x3C)).a = 1 := by
  decide

/-! ## Single steps (95_test_vectors.md section 3) -/

/-- TA01. -/
theorem test_add : (after { machine 1 [0x81] with a := 0x3A, c := 0xC6 }).a = 0 ∧
    (after { machine 1 [0x81] with a := 0x3A, c := 0xC6 }).f = 0xB0 := by decide
/-- TA14. -/
theorem test_adc : (after (put { machine 0x1001 [0x8E] with a := 0xE1, h := 0x10, f := 0x10 } 0x1000 0x1E)).f = 0xB0 := by decide
/-- TA22. -/
theorem test_sub : (after { machine 2 [0xD6, 0x01] with a := 0 }).a = 0xFF ∧ (after { machine 2 [0xD6, 0x01] with a := 0 }).f = 0x70 := by
  decide
/-- TA24, TA25. -/
theorem test_sbc : (after { machine 1 [0x98] with f := 0x10 }).f = 0x70 ∧
    (after { machine 1 [0x99] with a := 0x10, c := 0x0F, f := 0x10 }).f = 0xE0 := by decide
/-- TA30, TA33, TA40. -/
theorem test_logic : (after { machine 1 [0xA1] with a := 0xF0, c := 0x0F, f := 0x50 }).f = 0xA0 ∧
    (after { machine 1 [0xAF] with a := 0xFF, f := 0xF0 }).f = 0x80 ∧
    (after { machine 2 [0xF6, 0x80] with a := 1, f := 0xF0 }).a = 0x81 := by decide
/-- TA43. -/
theorem test_cp : (after { machine 1 [0xB8] with a := 0x3C, b := 0x40 }).a = 0x3C ∧
    (after { machine 1 [0xB8] with a := 0x3C, b := 0x40 }).f = 0x50 := by decide
/-- TA48, TA55. -/
theorem test_inc_dec : (after { machine 1 [0x04] with b := 0xFF, f := 0x10 }).f = 0xB0 ∧ (after (machine 1 [0x0D])).c = 0xFF := by decide
/-- TA52, TA53. -/
theorem test_inc_memory : (after (put { machine 0x1001 [0x34] with h := 0x10 } 0x1000 0xFF)).mem8 0x1000 = 0 ∧
    (after { machine 16 [0x34] with l := 0x10 }).err = some (.storeOutOfRange 0x0010 0) := by decide
/-- TB03, TB10. -/
theorem test_pair_arithmetic : (after { machine 1 [0x19] with h := 0x0F, l := 0xFF, e := 1, f := 0xC0 }).f = 0xA0 ∧
    (after (machine 1 [0x0B])).bc = 0xFFFF := by decide
/-- TB17, TB15. -/
theorem test_add_sp : (after { machine 2 [0xE8, 0x80] with sp := 0x0080 }).sp = 0 ∧
    (after { machine 2 [0xE8, 0xFF] with sp := 1, f := 0xC0 }).f = 0x30 := by decide
/-- TB24, TB28, TB22. -/
theorem test_accumulator_rotates : (after { machine 1 [0x0F] with a := 0x3B }).a = 0x9D ∧ (after { machine 1 [0x1F] with a := 0x81 }).a = 0x40 ∧
    (after { machine 1 [0x07] with f := 0xF0 }).f = 0 := by decide
/-- TB32, TB37. -/
theorem test_daa : (after { machine 1 [0x27] with a := 0x9A }).f = 0x90 ∧ (after { machine 1 [0x27] with f := 0x70 }).a = 0x9A := by decide
/-- TB40, TB42, TB44. -/
theorem test_flag_instructions : (after { machine 1 [0x2F] with a := 0x35, f := 0x90 }).f = 0xF0 ∧
    (after { machine 1 [0x37] with f := 0xE0 }).f = 0x90 ∧ (after { machine 1 [0x3F] with f := 0xF0 }).f = 0x80 := by decide
/-- TL06: the operand position does not wrap. -/
theorem test_operand_past_end : (after (put { machine 65536 [0x77] with pc := 0xFFFF } 0xFFFF 0x06)).b = 0 ∧
    (after (put { machine 65536 [0x77] with pc := 0xFFFF } 0xFFFF 0x06)).pc = 1 := by decide
/-- TL13, TL28, TL33. -/
theorem test_loads : (after { machine 0x1001 [0x74] with h := 0x10 }).mem8 0x1000 = 0x10 ∧
    (after (put (machine 65536 [0xF0, 0x34]) 0xFF34 0x9C)).a = 0x9C ∧
    (after { machine 65536 [0x22] with h := 0xFF, l := 0xFF, a := 0x56 }).hl = 0 := by decide
/-- TL45, TL46. -/
theorem test_store_sp : (after { machine 65536 [0x08, 0xFF, 0xFF] with sp := 0x1234 }).mem = [(0, 0x12), (1, 0xFF), (2, 0xFF), (65535, 0x34)] ∧
    (after { machine 16 [0x08, 0x0F] with sp := 0x1234 }).err = some (.storeOutOfRange 0x0010 0) := by decide
/-- TL49, TL51. -/
theorem test_load_offset : (after { machine 2 [0xF8, 0x81] with sp := 0x1000 }).hl = 0x0F81 ∧
    (after { machine 2 [0xF8, 0x7F] with sp := 0x00FF, f := 0xC0 }).f = 0x30 := by decide
/-- TX07, TX08, TX16, TX21. -/
theorem test_rotates : (after { machine 2 [0xCB, 0x15] with l := 0x80 }).f = 0x90 ∧
    (after { machine 2 [0xCB, 0x15] with l := 0x80, f := 0x10 }).l = 1 ∧ (after { machine 2 [0xCB, 0x2F] with a := 0x8A }).a = 0xC5 ∧
    (after (put { machine 0x1001 [0xCB, 0x36] with h := 0x10 } 0x1000 0xF0)).mem8 0x1000 = 0x0F := by decide
/-- TX26, TX32, TX37, TX44. -/
theorem test_bits : (after { machine 2 [0xCB, 0x7F] with a := 0x7F, f := 0xC0 }).f = 0xA0 ∧
    (after { machine 2 [0xCB, 0x81] with c := 0xFF }).c = 0xFE ∧ (after { machine 0x1001 [0xCB, 0xDE] with h := 0x10 }).mem8 0x1000 = 8 ∧
    (after { State.resetWith 2 [0x40] [0xCB, 0x40] with b := 1 }).err = some (.unrecognizedOpcode [0xCB, 0x40] 0) := by decide
/-- TS06, TS08. -/
theorem test_push : (after { machine 4 [0xC5] with b := 0x12, c := 0x34, sp := 4 }).mem = [(0, 0xC5), (2, 0x34), (3, 0x12)] ∧
    (after { machine 32768 [0xC5] with sp := 1 }).err = some (.storeOutOfRange 0xFFFF 0) := by decide
/-- TS13, TS15. -/
theorem test_pop : (after (put { machine 65536 [0xF1] with sp := 0xFFFC, f := 0xF0 } 0xFFFC 0x0F)).f = 0 ∧
    (after { machine 2 [0xD1, 0x22] with sp := 1 }).de = 0x0022 := by decide
/-- TC07, TC16, TC22. -/
theorem test_jumps : (after { machine 3 [0xCA, 0x00, 0x80] with f := 0x70 }).pc = 3 ∧ (after (machine 2 [0x18, 0x80])).pc = 0xFF82 ∧
    (after (put (put { machine 258 [] with pc := 0x0100, f := 0x80 } 0x0100 0x28) 0x0101 0xFB)).pc = 0x00FD := by decide
/-- TC36, TC54, TC44. -/
theorem test_calls : (after { machine 4 [0xDC, 0x34, 0x12] with sp := 0x10 }).cyc = 12 ∧
    (after (machine 16 [0xFF])).err = some (.storeOutOfRange 0xFFFF 0) ∧
    (after { machine 16 [0xD8, 0x03, 0x80] with sp := 1, f := 0x10 }).pc = 0x8003 := by decide
/-- TY05, TY09, TY21. -/
theorem test_engine : (after (machine 1 [0x76])).st = .halted ∧ (after (machine 1 [0x76])).pc = 0 ∧
    (after (machine 1 [0xD3])).err = some (.unrecognizedOpcode [0xD3] 0) ∧ (after (machine 0 [])).err = some (.memoryOverrun 0) := by decide
/-- The document's own program C6 FF 76 (S6): A is 255, pc is 2, the run reports success. -/
theorem test_document_program : (run 2 (machine 3 [0xC6, 0xFF, 0x76])).map (fun r => (r.1, r.2.a, r.2.pc)) =
    some (.success, 255, 2) := by decide

/-! ## Every statement with hypotheses: states that meet them -/

/-- A state of four bytes that meets the invariant, with SP at the end of memory and a `PUSH BC` at pc. -/
def small : State := { machine 4 [0xC5, 0xC1] with b := 0x12, c := 0x34, sp := 4, f := 0x10 }

theorem witness_small_inv : small.Inv := ⟨⟨by decide, by decide, by decide⟩, by decide, by decide⟩

theorem witness_ResetLeavesTheStatedValues : ([] : List Byte).length = 0 ∧ ([0x3C] : List Byte).length = 1 := by decide
theorem witness_InvariantHoldsAtReset : (0 : Nat) ≤ 65536 ∧ (65536 : Nat) ≤ 65536 := by decide
theorem witness_StepKeepsTheInvariant : ∃ s t : State, s.Inv ∧ step s = .next t := ⟨small, after small, witness_small_inv, rfl⟩
/-- Both clauses, at pc = N - 1: the operand byte lies past the end and reads 0x00. -/
theorem witness_StepRunsTheDecodedInstruction : ∃ (s : State) (i : Instr) (n : Nat),
    s.st = .running ∧ s.pc.toNat < s.memSize ∧ s.pc.toNat + 1 = s.memSize ∧ fetch s = .ok (i, n) ∧
      i.wellFormed s.extAbsent = true ∧
      ∀ k, k < (encode i).length → some (s.mem8 (s.pc.toNat + k)) = (encode i)[k]? :=
  ⟨machine 1 [0x06], .ldBD8 0, 2, rfl, by decide, rfl, rfl, by decide, by decide⟩
theorem witness_OverrunFailsTheRun : ∃ s t : State, s.st = .running ∧ s.memSize = s.pc.toNat ∧
    t.st = .running ∧ t.memSize < t.pc.toNat := ⟨machine 0 [], { machine 1 [] with pc := 0xFFFF }, by decide⟩
theorem witness_UnrecognizedOpcode_absent : ∃ (s : State) (b : Byte), s.st = .running ∧ s.pc.toNat < s.memSize ∧
    s.mem8 s.pc.toNat = 0xCB ∧ s.mem8 (s.pc.toNat + 1) = b ∧ b ∈ s.extAbsent :=
  ⟨State.resetWith 1 [0x00] [0xCB], 0, by decide⟩
theorem witness_UnrecognizedOpcode_illegal : ∃ (s : State) (h : Hole), s.st = .running ∧ s.pc.toNat < s.memSize ∧
    s.mem8 s.pc.toNat = h.byte := ⟨machine 1 [0xFD], .fd, by decide⟩
theorem witness_TerminalStatesAreAbsorbing : (after (machine 1 [0x76])).st = .halted ∧ (after (machine 0 [])).st = .failed := by decide
/-- Each of the three errors. -/
theorem witness_FailedStepChangesOnlyStAndErr : ∃ s t u : State, s.st = .running ∧ step s = .next (after s) ∧ (after s).st = .failed ∧
    t.st = .running ∧ step t = .next (after t) ∧ (after t).st = .failed ∧
    u.st = .running ∧ step u = .next (after u) ∧ (after u).st = .failed :=
  ⟨machine 0 [], machine 1 [0xD3], { machine 16 [0x77] with l := 0x10 }, rfl, rfl, rfl, rfl, rfl, rfl, rfl, rfl, rfl⟩
theorem witness_HaltedOnlyThroughHalt : ∃ s t : State, s.st = .running ∧ step s = .next (after s) ∧ (after s).st = .halted ∧
    t.st = .running ∧ step t = .next (after t) ∧ (after t).st ≠ .halted :=
  ⟨machine 1 [0x76], machine 1 [0x00], rfl, rfl, rfl, rfl, rfl, by decide⟩
theorem witness_OnlyCellsBelowNAreWritten : ∃ s t : State, step s = .next t ∧ t.mem ≠ s.mem := ⟨small, after small, rfl, by decide⟩
theorem test_storesAt_push : Instr.storesAt .pushBc small = [3, 2] := rfl
theorem witness_MemoryFrame_store : ∃ (i : Instr) (s t : State) (k : Nat), exec i s = .next t ∧ (∀ x ∈ i.storesAt s, x.toNat ≠ k) ∧
    t.mem ≠ s.mem := ⟨.pushBc, small, _, 1, rfl, by simp [test_storesAt_push], by decide⟩
theorem witness_MemoryFrame_no_store : ∃ (i : Instr) (s t : State), exec i s = .next t ∧ i.storesAt s = [] :=
  ⟨.nop, small, stateOf (exec .nop small) small, rfl, rfl⟩
theorem witness_FlagColumnIsObeyed : ∃ (i : Instr) (s t : State), s.st = .running ∧ exec i s = .next t ∧ t.st ≠ .failed ∧
    i.desc.flags.z = .keep ∧ i.desc.flags.n = .clear ∧ i.desc.flags.c = .set :=
  ⟨.scf, small, stateOf (exec .scf small) small, rfl, rfl, by decide, rfl, rfl, rfl⟩
/-- At the top of the address space, where pc wraps, and at HALT. -/
theorem witness_ProgramCounterAdvance : ∃ s : State, s.st = .running ∧ s.pc = 0xFFFF ∧
    (∃ t, exec .nop s = .next t ∧ t.st ≠ .failed ∧ t.pc = 0) ∧ Instr.nop.desc.ct = false ∧
    (∃ t, exec .halt s = .next t ∧ t.st ≠ .failed ∧ t.pc = 0xFFFF) ∧ Instr.halt.desc.ct = false :=
  ⟨{ machine 65536 [] with pc := 0xFFFF }, rfl, rfl, ⟨_, rfl, by decide, by decide⟩, rfl, ⟨_, rfl, by decide, by decide⟩, rfl⟩
/-- Each of the three cases. -/
theorem witness_CycleAccounting : small.st = .running ∧ (∃ t, exec .illegalD3 small = .next t ∧ t.st = .failed) ∧
    (∃ t, exec .nop small = .next t ∧ t.cyc = 4) ∧ (∃ t, exec .retNc small = .next t ∧ t.cyc = 8) :=
  ⟨rfl, ⟨_, rfl, rfl⟩, ⟨_, rfl, by decide⟩, ⟨_, rfl, by decide⟩⟩
theorem witness_NothingReadsCyc : ∃ s t : State, step s = .next t := ⟨small, after small, rfl⟩
theorem witness_RunIsIteratedStep : ∃ (k n : Nat) (s u : State) (r : RunResult), run k s = some (r, u) ∧ n ≤ k ∧ Steps n s u :=
  ⟨1, 1, machine 1 [0x76], after (machine 1 [0x76]), .success, rfl, by decide, .cons rfl (.refl _)⟩
theorem witness_DecodeOfEncode : ∃ (absent : List Byte) (i : Instr), i.wellFormed absent = true ∧ absent ≠ [] :=
  ⟨[0x40], .bit0C, by decide⟩
theorem witness_EncodeOfDecode : (∃ i : Instr, decode [] (streamSource [0x06, 0xAA]) 0 = .ok (i, [0x06, 0xAA].length)) ∧
    ∃ is : List Instr, decodeStream [] [0x81, 0x06, 0xAA] = .ok (is, [0x81, 0x06, 0xAA].length) := ⟨⟨_, rfl⟩, ⟨_, rfl⟩⟩
theorem witness_StreamsOfEncodingsDecodeBack : ∀ i ∈ [Instr.addAC, .ldBD8 0xAA], i.wellFormed [] = true := by decide
theorem witness_StructRoundTrip : RawInstr.wellFormed [] ⟨false, 0x06, 0x01AA, 0⟩ = false ∧
    RawInstr.wellFormed [] ⟨false, 0x06, 0x00FF, 0⟩ = true := by decide
theorem witness_OpcodeMaps : ∃ (b : Byte) (i j : Instr), b ≠ 0xCB ∧ i.wellFormed [] = true ∧ j.wellFormed [] = true ∧
    (encode i).head? = (encode j).head? ∧ (encode i).head? ≠ some 0xCB ∧ i ≠ j ∧ encode .bit0B = [0xCB, 0x40] :=
  ⟨0x06, .ldBD8 1, .ldBD8 2, by decide⟩
/-- Each error, `StreamEnded` and `TruncatedOperand` at the last position of the stream. -/
theorem witness_DecoderErrorOutcomes : ∃ (absent : List Byte) (src : Source) (op : Byte), 0x06 ≠ (0xCB : Byte) ∧ 0x40 ∈ absent ∧
    src 0 = some 0xCB ∧ src 1 = some 0x40 ∧ src 2 = some 0x06 ∧ src 3 = none ∧ op = 0x06 ∧ (baseCat op).k0.bytes = 1 ∧
    decode absent src 3 = .error (.streamEnded 3) ∧ decode absent src 0 = .error (.unrecognizedOpcode [0xCB, 0x40] 0) ∧
    decode absent src 2 = .error (.truncatedOperand 2 [op]) :=
  ⟨[0x40], streamSource [0xCB, 0x40, 0x06], 0x06, by decide, by decide, rfl, rfl, rfl, rfl, rfl, rfl, rfl, rfl, rfl⟩
/-- `StreamEnded` after a prefix byte. -/
theorem witness_DecoderErrorOutcomes_prefix : ∃ src : Source, src 0 = some 0xCB ∧ src 1 = none ∧
    decode [] src 0 = .error (.streamEnded 0) := ⟨streamSource [0xCB], rfl, rfl, rfl⟩
theorem witness_MemoryDecodeNeverFails : ∃ s : State, s.extAbsent = [] := ⟨machine 1 [0xCB], rfl⟩
/-- The clauses at the end of memory: a byte below, a byte at N, a word across it. -/
theorem witness_MemoryReadAndWrite : ∃ (s : State) (x y z : Word), s.MemOk ∧ s.memSize ≤ 4 ∧ s.memSize ≤ x.toNat ∧
    y.toNat < s.memSize ∧ s.memSize ≤ (y + 1).toNat ∧ z.toNat < s.memSize ∧ (z + 1).toNat < s.memSize :=
  ⟨small, 4, 3, 2, witness_small_inv.memOk, by decide⟩
/-- A word store whose second address wraps. -/
theorem witness_MemoryReadAndWrite_wrap : ∃ (s : State) (z : Word), s.MemOk ∧ z.toNat < s.memSize ∧ (z + 1).toNat < s.memSize ∧ z + 1 = 0 :=
  ⟨machine 65536 [], 0xFFFF, ⟨by decide, by decide, by decide⟩, by decide⟩
theorem witness_PushThenPopRestores : small.Inv ∧ (small.sp - 1).toNat < small.memSize ∧ (small.sp - 2).toNat < small.memSize :=
  ⟨witness_small_inv, by decide⟩
theorem witness_CallThenReturnRestores : small.Inv ∧ (small.sp - 1).toNat < small.memSize ∧ (small.sp - 2).toNat < small.memSize :=
  witness_PushThenPopRestores
theorem witness_IncrementDecrementMemory : ∃ s t : State, s.hl.toNat + 1 = s.memSize ∧ t.hl.toNat = t.memSize :=
  ⟨{ machine 4 [] with l := 3 }, { machine 4 [] with l := 4 }, by decide⟩
/-- Every clause at the last cell of memory. -/
theorem witness_StoreByteCompletes : ∃ (s : State) (w : Word) (n : Byte), s.hl.toNat < s.memSize ∧ s.hl.toNat + 1 = s.memSize ∧
    s.bc.toNat < s.memSize ∧ s.de.toNat < s.memSize ∧ w.toNat < s.memSize ∧ 0xFF00 + n.toNat < s.memSize ∧
    0xFF00 + s.c.toNat < s.memSize ∧ 0xFF00 + s.c.toNat + 1 = s.memSize :=
  ⟨{ machine 65536 [] with h := 0xFF, l := 0xFF, b := 0xFF, c := 0xFF, d := 0xFF, e := 0xFF }, 0xFFFF, 0xFF, by decide⟩
/-- Both cases of the statement, and one where only the second store address is out of range. -/
theorem witness_StoreOutOfRangeExactly :
    (Instr.storesAt (.ldAtA16Sp 3) small).find? (fun x => decide (small.memSize ≤ x.toNat)) = some 4 ∧
    (Instr.storesAt .pushBc small).find? (fun x => decide (small.memSize ≤ x.toNat)) = none ∧ small.err = none := by decide
theorem witness_StoreOutOfRangeExactly_next : ∃ t, exec .pushBc small = .next t := ⟨_, rfl⟩
theorem witness_LoadPairAndStackPointer : ∃ (w : Word) (s : State), w.toNat < s.memSize ∧ (w.toNat + 1) % 65536 < s.memSize ∧ w = 0xFFFF :=
  ⟨0xFFFF, machine 65536 [], by decide⟩
theorem witness_RotateMemory : ∃ s : State, s.hl.toNat < s.memSize ∧ s.hl.toNat + 1 = s.memSize := ⟨{ machine 4 [] with l := 3 }, by decide⟩
theorem witness_ResetAndSetBit : ∃ s : State, s.hl.toNat < s.memSize ∧ s.hl.toNat + 1 = s.memSize := ⟨{ machine 4 [] with l := 3 }, by decide⟩
theorem witness_PushCompletes : ∃ s t : State, (s.sp - 1).toNat < s.memSize ∧ (s.sp - 2).toNat < s.memSize ∧ s.sp.toNat = s.memSize ∧
    (t.sp - 1).toNat < t.memSize ∧ (t.sp - 2).toNat < t.memSize ∧ t.sp = 0 := ⟨small, machine 65536 [], by decide⟩
/-- A condition that is false with SP outside memory, and one that is true with both stack addresses below N. -/
theorem witness_CallsAndRestarts : ∃ s t : State, s.cond .nz = true ∧ s.cond .z = false ∧ (s.sp - 1).toNat < s.memSize ∧
    (s.sp - 2).toNat < s.memSize ∧ t.cond .c = false ∧ t.memSize ≤ (t.sp - 1).toNat :=
  ⟨small, { machine 4 [] with sp := 0x10 }, by decide⟩
/-- Both signs of an operand at their boundary (30_encoding.md R128). -/
theorem witness_RenderingOfOperands : (Instr.jrR8 0x80).render = "JR -80" ∧ (Instr.jrR8 0x7F).render = "JR 7F" := by decide
/-- The last cell of memory. -/
theorem witness_FieldNumbersAndOperands : small.MemOk ∧ 3 < small.memSize ∧ small.memSize = 3 + 1 := ⟨witness_small_inv.memOk, by decide⟩

end Sys2Proof.Tests
end

section
/-! The catalog invariants (10_state.md R31): each grid entry is its constructor's descriptor at its own index, and the invariants
are read off the two constructors. -/

namespace Sys2Proof

/-- An absent operand takes no byte (10_state.md R30). -/
@[simp] theorem OperandKind.bytes_none : OperandKind.none.bytes = 0 := rfl

/-- No operand kind takes more than two bytes (10_state.md R30). -/
theorem OperandKind.bytes_le_two (k : OperandKind) : k.bytes ≤ 2 := by
  cases k <;> decide

/-- Every byte is a row and a column of the grid: a statement about all bytes is one about those pairs (30_encoding.md section 7). -/
theorem forall_byte_of_grid {P : Byte → Prop} (h : ∀ row col : Fin 16, P (BitVec.ofNat 8 (16 * row + col))) (b : Byte) : P b := by
  have hb := b.isLt
  have hgrid := h ⟨b.toNat / 16, by omega⟩ ⟨b.toNat % 16, by omega⟩
  simpa [Nat.div_add_mod] using hgrid

/-- The base grid has at every byte an entry tagged with that byte, whose length counts the selector and its one operand. -/
theorem baseCat_eq_baseEntry (op : Byte) : ∃ mnemonic text len k0 cycles cyclesNt flags ct cls,
    baseCat op = baseEntry op mnemonic text len k0 cycles cyclesNt flags ct cls ∧ len = 1 + k0.bytes := by
  revert op
  apply forall_byte_of_grid
  intro row col
  fin_cases row <;> fin_cases col <;> exact ⟨_, _, _, _, _, _, _, _, _, rfl, rfl⟩

/-- The extended grid has at every byte an entry tagged with that byte. -/
theorem extCat_eq_extEntry (op : Byte) : ∃ mnemonic text cycles flags,
    extCat op = extEntry op mnemonic text cycles flags := by
  revert op
  apply forall_byte_of_grid
  intro row col
  fin_cases row <;> fin_cases col <;> exact ⟨_, _, _, _, rfl⟩

/-- Settles O20: by the space of the descriptor, from the form of its grid's entries. -/
theorem catalogInvariants : Obligations.CatalogInvariants := by
  intro absent ext op
  cases ext
  case false =>
    obtain ⟨_, _, _, k0, _, _, _, _, _, hd, rfl⟩ := baseCat_eq_baseEntry op
    have hlen : 1 + k0.bytes ≤ 3 := Nat.add_le_add_left k0.bytes_le_two 1
    simpa [lookup, hd, baseEntry] using hlen
  case true =>
    obtain ⟨_, _, _, _, hd⟩ := extCat_eq_extEntry op
    simp [lookup, hd, extEntry]

end Sys2Proof
end

section
/-! Decoding and encoding are inverse (30_encoding.md R116, R117). One equivalence carries both directions, over any source and
position: the decoder answers exactly the well-formed instructions whose encoding the source holds there. -/

namespace Sys2Proof

open Sys2Proof.Machine

/-! ## A source holding bytes -/

/-- The source gives the bytes `bs`, one after another, from position `pos` on. -/
def Source.Holds (src : Source) : Nat → List Byte → Prop
  | _, [] => True
  | pos, b :: bs => src pos = some b ∧ src.Holds (pos + 1) bs

@[simp] theorem Source.holds_nil (src : Source) (pos : Nat) : src.Holds pos [] := trivial

@[simp] theorem Source.holds_cons (src : Source) (pos : Nat) (b : Byte) (bs : List Byte) :
    src.Holds pos (b :: bs) ↔ src pos = some b ∧ src.Holds (pos + 1) bs := Iff.rfl

theorem Source.holds_append (src : Source) (pos : Nat) (bs cs : List Byte) :
    src.Holds pos (bs ++ cs) ↔ src.Holds pos bs ∧ src.Holds (pos + bs.length) cs := by
  induction bs generalizing pos with
  | nil => simp
  | cons b bs ih => simp [ih, and_assoc, Nat.add_assoc, Nat.add_comm 1]

/-- A stream holds exactly the prefixes of what is left of it. -/
theorem streamSource_holds_iff (bs : List Byte) (pos : Nat) (cs : List Byte) :
    (streamSource bs).Holds pos cs ↔ cs <+: bs.drop pos := by
  induction cs generalizing pos with
  | nil => simp
  | cons c cs ih =>
    rw [Source.holds_cons, ih, List.cons_prefix_iff]
    constructor
    · rintro ⟨hc, hcs⟩
      obtain ⟨hpos, rfl⟩ := List.getElem?_eq_some_iff.mp hc
      exact ⟨_, List.drop_eq_getElem_cons hpos, hcs⟩
    · rintro ⟨rest, hdrop, hcs⟩
      have hc : (bs.drop pos)[0]? = some c := by rw [hdrop]; rfl
      have hrest : bs.drop (pos + 1) = rest := by rw [← List.tail_drop, hdrop, List.tail_cons]
      exact ⟨by simpa [streamSource] using hc, hrest ▸ hcs⟩

/-! ## One operand -/

@[simp] theorem OperandKind.bytes_u8 : OperandKind.u8.bytes = 1 := rfl
@[simp] theorem OperandKind.bytes_s8 : OperandKind.s8.bytes = 1 := rfl
@[simp] theorem OperandKind.bytes_u16 : OperandKind.u16.bytes = 2 := rfl

/-- A value fits its kind exactly when reading it as that kind gives it back (10_state.md R33). -/
theorem OperandKind.fits_iff_canon (k : OperandKind) (v : Word) : k.fits v = true ↔ k.canon v = v := by
  have byteFits : v.toNat < 256 ↔ zext16 (loByte v) = v := by
    rw [← BitVec.toNat_inj, toNat_zext16, loByte_toNat]
    omega
  cases k
  case none => simp [fits, canon, ← BitVec.toNat_inj, eq_comm (a := 0)]
  case u8 => simpa [fits, canon] using byteFits
  case s8 => simpa [fits, canon] using byteFits
  case u16 => exact iff_of_true (decide_eq_true v.isLt) rfl

/-- Only zero fits an absent operand (10_state.md R33). -/
@[simp] theorem OperandKind.fits_none_iff (v : Word) : OperandKind.none.fits v = true ↔ v = 0 := by
  rw [fits_iff_canon]
  exact eq_comm

@[simp] theorem length_operandBytes (k : OperandKind) (v : Word) : (operandBytes k v).length = k.bytes := by
  cases k <;> rfl

/-- A one-byte operand reads as the zero-extension of the byte at its position (30_encoding.md R102). -/
theorem readOperand_u8_eq_some_iff (src : Source) (next m : Nat) (v : Word) :
    readOperand src .u8 next = some (v, m) ↔
      zext16 (loByte v) = v ∧ src next = some (loByte v) ∧ m = next + 1 := by
  unfold readOperand
  cases src next with
  | none => simp
  | some t =>
    constructor
    · rintro ⟨⟩
      simp
    · rintro ⟨hv, ht, rfl⟩
      cases ht
      exact congrArg (fun x => some (x, next + 1)) hv

/-- The signed kind is read as the unsigned one: its sign is the meaning's matter (30_encoding.md R104). -/
theorem readOperand_s8 (src : Source) (next : Nat) : readOperand src .s8 next = readOperand src .u8 next := rfl

/-- A two-byte operand reads as the two bytes at its position, low byte first (30_encoding.md R103). -/
theorem readOperand_u16_eq_some_iff (src : Source) (next m : Nat) (v : Word) :
    readOperand src .u16 next = some (v, m) ↔
      (src next = some (loByte v) ∧ src (next + 1) = some (hiByte v)) ∧ m = next + 2 := by
  unfold readOperand
  cases src next with
  | none => simp
  | some t0 =>
    cases src (next + 1) with
    | none => simp
    | some t1 =>
      constructor
      · rintro ⟨⟩
        simp
      · rintro ⟨⟨⟨⟩, ⟨⟩⟩, rfl⟩
        exact congrArg (fun x => some (x, next + 2)) (joinBytes_hi_lo v)

/-- Reading an operand answers exactly the values that fit its kind and whose bytes the source holds (30_encoding.md R102,
R103). -/
theorem readOperand_eq_some_iff (src : Source) (k : OperandKind) (next m : Nat) (v : Word) :
    readOperand src k next = some (v, m) ↔
      k.fits v = true ∧ src.Holds next (operandBytes k v) ∧ m = next + k.bytes := by
  have hu8 := readOperand_u8_eq_some_iff src next m v
  rw [k.fits_iff_canon]
  cases k
  case none => simp [readOperand, OperandKind.canon, operandBytes, eq_comm (b := m)]
  case u8 => simpa [OperandKind.canon, operandBytes] using hu8
  case s8 => simpa [OperandKind.canon, operandBytes, readOperand_s8] using hu8
  case u16 => simpa [OperandKind.canon, operandBytes] using readOperand_u16_eq_some_iff src next m v

/-! ## The tag: what the catalog says of a struct -/

/-- The class `prefix` is that of the prefix byte alone (30_encoding.md R110). -/
theorem baseCat_prefixSlot_iff (op : Byte) : (baseCat op).cls = .prefixSlot ↔ op = Config.extPrefix := by
  revert op
  apply forall_byte_of_grid
  intro row col
  fin_cases row <;> fin_cases col <;> decide

theorem baseCat_present (op : Byte) : (baseCat op).present = true := (catalogInvariants [] false op).1 rfl

theorem baseCat_k1 (op : Byte) : (baseCat op).k1 = .none := by
  obtain ⟨_, _, _, _, _, _, _, _, _, hd, _⟩ := baseCat_eq_baseEntry op
  rw [hd]; rfl

theorem baseCat_len (op : Byte) : (baseCat op).len = 1 + (baseCat op).k0.bytes := by
  obtain ⟨_, _, _, _, _, _, _, _, _, hd, hlen⟩ := baseCat_eq_baseEntry op
  rw [hd]; exact hlen

/-- An extended entry has two bytes, no operand, and the class `normal` (10_state.md R31(e)). -/
theorem extCat_shape (op : Byte) :
    (extCat op).len = 2 ∧ (extCat op).k0 = .none ∧ (extCat op).k1 = .none ∧ (extCat op).cls = .normal := by
  obtain ⟨_, _, _, _, hd⟩ := extCat_eq_extEntry op
  rw [hd]
  exact ⟨rfl, rfl, rfl, rfl⟩

theorem RawInstr.wellFormed_base_iff (absent : List Byte) (op : Byte) (v0 v1 : Word) :
    RawInstr.wellFormed absent ⟨false, op, v0, v1⟩ = true ↔
      op ≠ Config.extPrefix ∧ (baseCat op).k0.fits v0 = true ∧ v1 = 0 := by
  simp [wellFormed, lookup, baseCat_present, baseCat_k1, baseCat_prefixSlot_iff, and_assoc]

theorem RawInstr.wellFormed_ext_iff (absent : List Byte) (op : Byte) (v0 v1 : Word) :
    RawInstr.wellFormed absent ⟨true, op, v0, v1⟩ = true ↔ op ∉ absent ∧ v0 = 0 ∧ v1 = 0 := by
  obtain ⟨_, hk0, hk1, hcls⟩ := extCat_shape op
  simp [wellFormed, lookup, hk0, hk1, hcls, and_assoc]

theorem RawInstr.bytes_base (op : Byte) (v0 v1 : Word) :
    RawInstr.bytes ⟨false, op, v0, v1⟩ = op :: operandBytes (baseCat op).k0 v0 := by
  simp [bytes, lookup, baseCat_k1, operandBytes]

theorem RawInstr.bytes_ext (op : Byte) (v0 v1 : Word) :
    RawInstr.bytes ⟨true, op, v0, v1⟩ = [Config.extPrefix, op] := by
  obtain ⟨_, hk0, hk1, _⟩ := extCat_shape op
  simp [bytes, lookup, hk0, hk1, operandBytes]

theorem RawInstr.desc_len_base (op : Byte) (v0 v1 : Word) :
    (RawInstr.desc ⟨false, op, v0, v1⟩).len = 1 + (baseCat op).k0.bytes := baseCat_len op

theorem RawInstr.desc_len_ext (op : Byte) (v0 v1 : Word) : (RawInstr.desc ⟨true, op, v0, v1⟩).len = 2 :=
  (extCat_shape op).1

/-- The encoding has the declared length (30_encoding.md R111). -/
theorem RawInstr.length_bytes (x : RawInstr) : x.bytes.length = x.desc.len := by
  obtain ⟨ext, op, v0, v1⟩ := x
  cases ext
  case false => simp [bytes_base, desc_len_base, Nat.add_comm]
  case true => simp [bytes_ext, desc_len_ext]

/-- The instruction of a well-formed struct has that struct (10_state.md R33). -/
theorem RawInstr.toRaw_toInstr_of_wellFormed {absent : List Byte} {x : RawInstr} (h : x.wellFormed absent = true) :
    x.toInstr.toRaw = x := by
  obtain ⟨ext, op, v0, v1⟩ := x
  rw [toRaw_toInstr]
  cases ext
  case false =>
    obtain ⟨_, hv0, rfl⟩ := (wellFormed_base_iff absent op v0 v1).mp h
    simp [lookup, (OperandKind.fits_iff_canon _ _).mp hv0]
  case true =>
    obtain ⟨_, rfl, rfl⟩ := (wellFormed_ext_iff absent op v0 v1).mp h
    simp [lookup, (extCat_shape op).2.1, OperandKind.canon]

/-! ## The decoder on structs -/

/-- With no second operand, reading the operands answers exactly a first operand that fits and stands in the source. -/
theorem readOperands_eq_ok_iff (src : Source) {d : Descriptor} (hk1 : d.k1 = .none) (ext : Bool) (op : Byte)
    (sel : List Byte) (pos next n : Nat) (x : RawInstr) :
    readOperands src d ext op sel pos next = .ok (x, n) ↔
      ∃ v0, d.k0.fits v0 = true ∧ src.Holds next (operandBytes d.k0 v0) ∧ x = ⟨ext, op, v0, 0⟩ ∧
        n = next + d.k0.bytes - pos := by
  have hread : readOperands src d ext op sel pos next = .ok (x, n) ↔
      ∃ v0 m, readOperand src d.k0 next = some (v0, m) ∧ x = ⟨ext, op, v0, 0⟩ ∧ n = m - pos := by
    rw [readOperands, hk1]
    cases readOperand src d.k0 next <;> simp [readOperand, Prod.ext_iff, eq_comm]
  simp [hread, readOperand_eq_some_iff, and_assoc]

/-- A first byte other than the prefix is a base selector (30_encoding.md R101). -/
theorem decodeRaw_of_base (absent : List Byte) {src : Source} {pos : Nat} {op : Byte} (h0 : src pos = some op)
    (hop : op ≠ Config.extPrefix) :
    decodeRaw absent src pos = readOperands src (baseCat op) false op [op] pos (pos + 1) := by
  simp [decodeRaw, h0, hop, lookup, baseCat_present]

/-- After the prefix, the second byte is an extended selector, and that is the whole instruction (30_encoding.md R101, R107). -/
theorem decodeRaw_of_ext (absent : List Byte) {src : Source} {pos : Nat} {op : Byte} (h0 : src pos = some Config.extPrefix)
    (h1 : src (pos + 1) = some op) :
    decodeRaw absent src pos = if op ∈ absent then .error (.unrecognizedOpcode [Config.extPrefix, op] pos)
      else .ok (⟨true, op, 0, 0⟩, 2) := by
  obtain ⟨_, hk0, hk1, _⟩ := extCat_shape op
  by_cases hop : op ∈ absent <;> simp [decodeRaw, h0, h1, lookup, hop, readOperands, readOperand, hk0, hk1]

/-- A source whose bytes end before a selector is complete gives no instruction (30_encoding.md R105). -/
theorem decodeRaw_of_end (absent : List Byte) {src : Source} {pos : Nat}
    (h : src pos = none ∨ src pos = some Config.extPrefix ∧ src (pos + 1) = none) :
    decodeRaw absent src pos = .error (.streamEnded pos) := by
  obtain h0 | ⟨h0, h1⟩ := h
  · simp [decodeRaw, h0]
  · simp [decodeRaw, h0, h1]

/-- What the decoder answers is well-formed, has its bytes in the source, and its length as the count (30_encoding.md R101). -/
theorem holds_of_decodeRaw {absent : List Byte} {src : Source} {pos n : Nat} {x : RawInstr}
    (h : decodeRaw absent src pos = .ok (x, n)) :
    x.wellFormed absent = true ∧ src.Holds pos x.bytes ∧ n = x.desc.len := by
  cases h0 : src pos with
  | none => simp [decodeRaw_of_end absent (.inl h0)] at h
  | some op =>
    by_cases hop : op = Config.extPrefix
    · subst hop
      cases h1 : src (pos + 1) with
      | none => simp [decodeRaw_of_end absent (.inr ⟨h0, h1⟩)] at h
      | some b =>
        rw [decodeRaw_of_ext absent h0 h1] at h
        split at h
        next => cases h
        next hb =>
          cases h
          simp [RawInstr.wellFormed_ext_iff, RawInstr.bytes_ext, RawInstr.desc_len_ext, hb, h0, h1]
    · rw [decodeRaw_of_base absent h0 hop, readOperands_eq_ok_iff src (baseCat_k1 op)] at h
      obtain ⟨v0, hfits, hheld, rfl, rfl⟩ := h
      simp [RawInstr.wellFormed_base_iff, RawInstr.bytes_base, RawInstr.desc_len_base, hop, hfits, h0, hheld, Nat.add_assoc]

/-- A well-formed struct whose bytes the source holds is what the decoder answers (30_encoding.md R101, R116). -/
theorem decodeRaw_of_holds {absent : List Byte} {src : Source} {pos : Nat} {x : RawInstr}
    (hwf : x.wellFormed absent = true) (hheld : src.Holds pos x.bytes) :
    decodeRaw absent src pos = .ok (x, x.desc.len) := by
  obtain ⟨ext, op, v0, v1⟩ := x
  cases ext
  case false =>
    obtain ⟨hop, hfits, rfl⟩ := (RawInstr.wellFormed_base_iff absent op v0 v1).mp hwf
    rw [RawInstr.bytes_base, Source.holds_cons] at hheld
    obtain ⟨h0, hrest⟩ := hheld
    rw [decodeRaw_of_base absent h0 hop, readOperands_eq_ok_iff src (baseCat_k1 op)]
    exact ⟨v0, hfits, hrest, rfl, by rw [RawInstr.desc_len_base]; omega⟩
  case true =>
    obtain ⟨hop, rfl, rfl⟩ := (RawInstr.wellFormed_ext_iff absent op v0 v1).mp hwf
    rw [RawInstr.bytes_ext, Source.holds_cons, Source.holds_cons] at hheld
    obtain ⟨h0, h1, _⟩ := hheld
    rw [decodeRaw_of_ext absent h0 h1, if_neg hop, RawInstr.desc_len_ext]

/-! ## The decoder on instructions and streams -/

/-- The encoding of an instruction has its declared length (30_encoding.md R111). -/
theorem length_encode (i : Instr) : (encode i).length = i.desc.len := i.toRaw.length_bytes

/-- The decoder answers exactly the well-formed instructions whose encoding the source holds, with the declared length
(30_encoding.md R101, R116, R117). -/
theorem decode_eq_ok_iff (absent : List Byte) (src : Source) (pos n : Nat) (i : Instr) :
    decode absent src pos = .ok (i, n) ↔
      i.wellFormed absent = true ∧ src.Holds pos (encode i) ∧ n = i.desc.len := by
  have hraw : decode absent src pos = .ok (i, n) ↔ ∃ x, decodeRaw absent src pos = .ok (x, n) ∧ x.toInstr = i := by
    unfold decode
    cases decodeRaw absent src pos <;> simp [Prod.ext_iff, and_comm]
  rw [hraw]
  constructor
  · rintro ⟨x, hx, rfl⟩
    obtain ⟨hwf, hheld, hn⟩ := holds_of_decodeRaw hx
    rw [Instr.wellFormed, encode, Instr.desc, RawInstr.toRaw_toInstr_of_wellFormed hwf]
    exact ⟨hwf, hheld, hn⟩
  · rintro ⟨hwf, hheld, rfl⟩
    exact ⟨i.toRaw, decodeRaw_of_holds hwf hheld, i.toInstr_toRaw⟩

/-- Stream iteration answers instructions whose encodings stand one after another in the source, up to where it ended
(30_encoding.md R109). -/
theorem holds_of_decodeFrom {absent : List Byte} {src : Source} {fuel pos last : Nat} {is : List Instr}
    (h : decodeFrom absent src fuel pos = .ok (is, last)) :
    src.Holds pos (is.map encode).flatten ∧ last = pos + (is.map encode).flatten.length := by
  induction fuel generalizing pos is with
  | zero => cases h
  | succ fuel ih =>
    unfold decodeFrom at h
    split at h
    next =>
      cases h
      simp
    next => cases h
    next i n hdec =>
      obtain ⟨_, hheld, rfl⟩ := (decode_eq_ok_iff absent src pos n i).mp hdec
      split at h
      next is last' hrest =>
        cases h
        obtain ⟨hheldRest, hlast⟩ := ih hrest
        rw [← length_encode] at hheldRest hlast
        simp [Source.holds_append, hheld, hheldRest, hlast, Nat.add_assoc]
      next => cases h

/-- A stream that holds as many bytes as it has holds just its own. -/
theorem eq_of_streamSource_holds {bs cs : List Byte} (h : (streamSource bs).Holds 0 cs)
    (hlen : bs.length = cs.length) : cs = bs :=
  ((streamSource_holds_iff bs 0 cs).mp h).eq_of_length hlen.symm

/-- Settles O21: a stream holds its own bytes, and the decoder answers the well-formed instruction whose encoding it holds. -/
theorem decodeOfEncode : Obligations.DecodeOfEncode := by
  intro absent i hwf
  have hheld : (streamSource (encode i)).Holds 0 (encode i) :=
    (streamSource_holds_iff (encode i) 0 (encode i)).mpr (List.prefix_refl _)
  exact (decode_eq_ok_iff absent _ 0 _ i).mpr ⟨hwf, hheld, rfl⟩

/-- Settles O22: what the decoder answers has its encoding in the stream, from the first byte and, by the counts, to the last. -/
theorem encodeOfDecode : Obligations.EncodeOfDecode := by
  constructor
  · intro absent bs i h
    obtain ⟨_, hheld, hlen⟩ := (decode_eq_ok_iff absent _ 0 _ i).mp h
    exact eq_of_streamSource_holds hheld (hlen.trans (length_encode i).symm)
  · intro absent bs is h
    obtain ⟨hheld, hlast⟩ := holds_of_decodeFrom h
    exact eq_of_streamSource_holds hheld (hlast.trans (Nat.zero_add _))

end Sys2Proof
end

section
/-! Arithmetic and logical instructions (40_arith_logic.md R151 to R190, 41_load.md R243). First each byte and flag that an operation
computes, as a number; then each operation's state in those numbers; then the instructions: `retire_of_normal` advances pc and CYC of
an operation's state, so that an obligation is that lemma applied to its operation's. -/

namespace Sys2Proof

open Sys2Proof.Machine

/-! ## Bytes and flags as numbers -/

/-- The zero flag of a byte, by its number (10_state.md R27). -/
theorem beq_zero_eq_decide (v : Byte) : (v == 0#8) = decide (v.toNat = 0) := by
  rw [beq_eq_decide, decide_eq_decide, ← BitVec.toNat_inj, BitVec.toNat_ofNat]

/-- The zero flag of a number's low byte (40_arith_logic.md R151). -/
theorem ofNat_beq_zero (n : Nat) : (BitVec.ofNat 8 n == 0#8) = decide (n % 256 = 0) := by
  rw [beq_zero_eq_decide, BitVec.toNat_ofNat]

/-- The zero flag of an integer's low byte (40_arith_logic.md R160). -/
theorem ofInt_beq_zero (i : Int) : (BitVec.ofInt 8 i == 0#8) = decide (i % 256 = 0) := by
  rw [beq_zero_eq_decide, decide_eq_decide, BitVec.toNat_ofInt]
  omega

/-- The zero flag of a difference (40_arith_logic.md R157). -/
theorem sub_beq_zero (a v : Byte) : (a - v == 0#8) = decide (a.toNat = v.toNat) := by
  rw [beq_eq_decide, decide_eq_decide, BitVec.toNat_inj]
  exact sub_eq_zero

/-- The high byte of a word, made from its number (00_scope.md R8). -/
theorem hiByte_eq_ofNat (w : Word) : hiByte w = BitVec.ofNat 8 (w.toNat / 256) := by
  rw [← hiByte_toNat, BitVec.ofNat_toNat, BitVec.setWidth_eq]

/-- The low byte of a word, made from its number (00_scope.md R8). -/
theorem loByte_eq_ofNat (w : Word) : loByte w = BitVec.ofNat 8 w.toNat := by
  apply BitVec.eq_of_toNat_eq
  rw [loByte_toNat, BitVec.toNat_ofNat]

/-- The successor of a word, made from its number (40_arith_logic.md R180). -/
theorem add_one_eq_ofNat (w : Word) : w + 1 = BitVec.ofNat 16 (w.toNat + 1) := by
  rw [BitVec.ofNat_add, BitVec.ofNat_toNat, BitVec.setWidth_eq]
  rfl

/-- The predecessor of a word, its subtraction kept above zero (40_arith_logic.md R181). -/
theorem sub_one_eq_ofNat (w : Word) : w - 1 = BitVec.ofNat 16 (w.toNat + 65535) := by
  rw [BitVec.ofNat_add, BitVec.ofNat_toNat, BitVec.setWidth_eq, BitVec.sub_eq_add_neg]
  rfl

/-- The low nibble of a byte (00_scope.md R8). -/
theorem toNat_and_0f (v : Byte) : (v &&& 0x0F).toNat = v.toNat % 16 := Nat.and_two_pow_sub_one_eq_mod v.toNat 4

@[simp] theorem toNat_boolByte (b : Bool) : (boolByte b).toNat = b.toNat := by cases b <;> rfl

/-- Bit 7 is the top half of the range (00_scope.md R8). -/
theorem getLsbD_seven (v : Byte) : v.getLsbD 7 = decide (128 ≤ v.toNat) := BitVec.msb_eq_decide v

/-- Bit 0 is the parity (00_scope.md R8). -/
theorem getLsbD_zero (v : Byte) : v.getLsbD 0 = decide (v.toNat % 2 = 1) := by
  simp [BitVec.getLsbD, Nat.testBit_zero]

/-- A bit as a number (00_scope.md R8). -/
theorem toNat_getLsbD (v : Byte) (i : Nat) : (v.getLsbD i).toNat = v.toNat / 2 ^ i % 2 := Nat.toNat_testBit v.toNat i

/-- A shift left with a bit put in at the low end (40_arith_logic.md R183, R185). -/
theorem shiftLeft_or_boolByte (v : Byte) (b : Bool) : (v <<< 1) ||| boolByte b = BitVec.ofNat 8 (2 * v.toNat % 256 + b.toNat) := by
  have hb := b.toNat_lt
  have hshift : (v <<< 1).toNat = 2 ^ 1 * (v.toNat % 128) := by
    rw [BitVec.toNat_shiftLeft, Nat.shiftLeft_eq]
    omega
  apply BitVec.eq_of_toNat_eq
  rw [BitVec.toNat_or, hshift, toNat_boolByte, ← Nat.two_pow_add_eq_or_of_lt hb, BitVec.toNat_ofNat]
  omega

/-- A shift right with a bit put in at the high end (40_arith_logic.md R184, R186). -/
theorem shiftRight_or_boolByte (v : Byte) (b : Bool) :
    (v >>> 1) ||| (boolByte b <<< 7) = BitVec.ofNat 8 (v.toNat / 2 + 128 * b.toNat) := by
  have hv := v.isLt
  have hb := b.toNat_lt
  have hbit : (boolByte b <<< 7).toNat = 2 ^ 7 * b.toNat := by cases b <;> rfl
  have hlow : v.toNat / 2 < 2 ^ 7 := by omega
  apply BitVec.eq_of_toNat_eq
  rw [BitVec.toNat_or, hbit, BitVec.toNat_ushiftRight, Nat.shiftRight_eq_div_pow, Nat.pow_one, Nat.or_comm,
    ← Nat.two_pow_add_eq_or_of_lt hlow, BitVec.toNat_ofNat]
  omega

/-- `sext_8` is the two's complement reading (00_scope.md R9). -/
theorem sext8_eq_toInt (v : Byte) : sext8 v = v.toInt := by
  rw [sext8, BitVec.toInt_eq_toNat_cond]
  split <;> split <;> omega

/-! ## The operations as numbers -/

/-- Without a borrow the subtraction of 40_arith_logic.md R150 is that of bytes. -/
theorem sub8_false (a v : Byte) :
    sub8 a v false = ⟨a - v, decide (a.toNat % 16 < v.toNat % 16), decide (a.toNat < v.toNat)⟩ := by
  have hresult : BitVec.ofInt 8 ((a.toNat : Int) - v.toNat) = a - v := by
    apply BitVec.eq_of_toNat_eq
    rw [BitVec.toNat_ofInt, BitVec.toNat_sub]
    omega
  simp [sub8, hresult]

/-- `ADD A v` (40_arith_logic.md R151). -/
theorem addA_eq (s : State) (v : Byte) : addA s v = { s with
    a := BitVec.ofNat 8 (s.a.toNat + v.toNat)
    f := packFlags (decide ((s.a.toNat + v.toNat) % 256 = 0)) false (decide (s.a.toNat % 16 + v.toNat % 16 > 15))
      (decide (s.a.toNat + v.toNat > 255)) } := by
  simp [addA, add8, State.setFlags_eq, ofNat_beq_zero]

/-- `ADC A v` (40_arith_logic.md R154). -/
theorem adcA_eq (s : State) (v : Byte) : adcA s v = { s with
    a := BitVec.ofNat 8 (s.a.toNat + v.toNat + s.cf.toNat)
    f := packFlags (decide ((s.a.toNat + v.toNat + s.cf.toNat) % 256 = 0)) false
      (decide (s.a.toNat % 16 + v.toNat % 16 + s.cf.toNat > 15)) (decide (s.a.toNat + v.toNat + s.cf.toNat > 255)) } := by
  simp [adcA, add8, State.setFlags_eq, ofNat_beq_zero]

/-- `SUB v` (40_arith_logic.md R157). -/
theorem subA_eq (s : State) (v : Byte) : subA s v = { s with
    a := s.a - v
    f := packFlags (decide (s.a.toNat = v.toNat)) true (decide (s.a.toNat % 16 < v.toNat % 16))
      (decide (s.a.toNat < v.toNat)) } := by
  simp [subA, sub8_false, State.setFlags_eq, sub_beq_zero]

/-- `SBC A v` (40_arith_logic.md R160). -/
theorem sbcA_eq (s : State) (v : Byte) : sbcA s v = { s with
    a := BitVec.ofInt 8 ((s.a.toNat : Int) - v.toNat - s.cf.toNat)
    f := packFlags (decide (((s.a.toNat : Int) - v.toNat - s.cf.toNat) % 256 = 0)) true
      (decide (s.a.toNat % 16 < v.toNat % 16 + s.cf.toNat)) (decide (s.a.toNat < v.toNat + s.cf.toNat)) } := by
  simp [sbcA, sub8, State.setFlags_eq, ofInt_beq_zero]

/-- `CP v` (40_arith_logic.md R172). -/
theorem cpA_eq (s : State) (v : Byte) : cpA s v = { s with
    f := packFlags (decide (s.a.toNat = v.toNat)) true (decide (s.a.toNat % 16 < v.toNat % 16))
      (decide (s.a.toNat < v.toNat)) } := by
  simp [cpA, sub8_false, State.setFlags_eq, sub_beq_zero]

/-- `AND v` (40_arith_logic.md R163). -/
theorem andA_eq (s : State) (v : Byte) : andA s v = { s with
    a := s.a &&& v, f := packFlags (decide (s.a &&& v = 0)) false true false } := by
  simp [andA, State.setFlags_eq, beq_eq_decide]

/-- `XOR v` (40_arith_logic.md R166). -/
theorem xorA_eq (s : State) (v : Byte) : xorA s v = { s with
    a := s.a ^^^ v, f := packFlags (decide (s.a = v)) false false false } := by
  simp [xorA, State.setFlags_eq, beq_eq_decide]

/-- `OR v` (40_arith_logic.md R169). -/
theorem orA_eq (s : State) (v : Byte) : orA s v = { s with
    a := s.a ||| v, f := packFlags (decide (s.a = 0 ∧ v = 0)) false false false } := by
  simp [orA, State.setFlags_eq, beq_eq_decide]

/-- The flags of an increment (40_arith_logic.md R175, R176). -/
theorem incFlags_eq (s : State) (v : Byte) : incFlags s v = { s with
    f := packFlags (decide (v.toNat = 255)) false (decide (v.toNat % 16 = 15)) s.cf } := by
  have hz : (v + 1 == 0#8) = decide (v.toNat = 255) := by
    rw [beq_eq_decide, decide_eq_decide]
    bv_omega
  have hh : (v &&& 0x0F == 0x0F) = decide (v.toNat % 16 = 15) := by
    rw [beq_eq_decide, decide_eq_decide, ← BitVec.toNat_inj, toNat_and_0f]
    rfl
  rw [incFlags, State.setFlags_eq, ← hz, ← hh]
  rfl

/-- The flags of a decrement (40_arith_logic.md R177, R178). -/
theorem decFlags_eq (s : State) (v : Byte) : decFlags s v = { s with
    f := packFlags (decide (v.toNat = 1)) true (decide (v.toNat % 16 = 0)) s.cf } := by
  have hz : (v - 1 == 0#8) = decide (v.toNat = 1) := sub_beq_zero v 1
  have hh : (v &&& 0x0F == 0x00) = decide (v.toNat % 16 = 0) := by
    rw [beq_eq_decide, decide_eq_decide, ← BitVec.toNat_inj, toNat_and_0f]
    rfl
  rw [decFlags, State.setFlags_eq, ← hz, ← hh]
  rfl

/-- `INC r` (40_arith_logic.md R175). -/
theorem incReg_eq (s : State) (r : Reg8) : incReg s r = { s.setReg r (BitVec.ofNat 8 ((s.reg r).toNat + 1)) with
    f := packFlags (decide ((s.reg r).toNat = 255)) false (decide ((s.reg r).toNat % 16 = 15)) s.cf } := by
  simp [incReg, incFlags_eq, BitVec.ofNat_add]

/-- `DEC r` (40_arith_logic.md R177). -/
theorem decReg_eq (s : State) (r : Reg8) : decReg s r = { s.setReg r (BitVec.ofNat 8 ((s.reg r).toNat + 255)) with
    f := packFlags (decide ((s.reg r).toNat = 1)) true (decide ((s.reg r).toNat % 16 = 0)) s.cf } := by
  simp [decReg, decFlags_eq, BitVec.ofNat_add, BitVec.sub_eq_add_neg]

/-- `ADD HL rr` (40_arith_logic.md R179). -/
theorem addHl_eq (s : State) (w : Word) : addHl s w = { s with
    h := BitVec.ofNat 8 ((s.hl.toNat + w.toNat) % 65536 / 256), l := BitVec.ofNat 8 (s.hl.toNat + w.toNat)
    f := packFlags s.zf false (decide (s.hl.toNat % 4096 + w.toNat % 4096 > 4095))
      (decide (s.hl.toNat + w.toNat > 65535)) } := by
  have hlow : BitVec.ofNat 8 ((s.hl.toNat + w.toNat) % 65536) = BitVec.ofNat 8 (s.hl.toNat + w.toNat) := by
    apply BitVec.eq_of_toNat_eq
    rw [BitVec.toNat_ofNat, BitVec.toNat_ofNat]
    omega
  rw [addHl, State.setFlags_eq, State.setHl, hiByte_eq_ofNat, loByte_eq_ofNat, BitVec.toNat_add, hlow]
  rfl

/-- `ADD SP r8` (40_arith_logic.md R182). -/
theorem addSp_eq (s : State) (n : Byte) : addSp s n = { s with
    sp := BitVec.ofInt 16 ((s.sp.toNat : Int) + n.toInt)
    f := packFlags false false (decide (s.sp.toNat % 16 + n.toNat % 16 > 15))
      (decide (s.sp.toNat % 256 + n.toNat > 255)) } := by
  rw [addSp, State.setFlags_eq, addSigned, sext8_eq_toInt]
  rfl

/-- `LD HL SP+r8` (41_load.md R243). -/
theorem loadHlOffset_eq (s : State) (n : Byte) :
    loadHlOffset s n = { s with
      h := BitVec.ofNat 8 ((BitVec.ofInt 16 ((s.sp.toNat : Int) + n.toInt)).toNat / 256)
      l := BitVec.ofNat 8 (BitVec.ofInt 16 ((s.sp.toNat : Int) + n.toInt)).toNat
      f := packFlags false false (decide (s.sp.toNat % 16 + n.toNat % 16 > 15))
        (decide (s.sp.toNat % 256 + n.toNat > 255)) } := by
  rw [loadHlOffset, State.setFlags_eq, State.setHl, addSigned, sext8_eq_toInt, hiByte_eq_ofNat, loByte_eq_ofNat]
  rfl

/-- A rotate left puts bit 7 in at the low end (40_arith_logic.md R183). -/
theorem rotResult_rlc (v : Byte) (c : Bool) : rotResult .rlc v c = BitVec.ofNat 8 (2 * v.toNat % 256 + v.toNat / 128) := by
  have hv := v.isLt
  have hbit : v.toNat / 2 ^ 7 % 2 = v.toNat / 128 := by omega
  rw [rotResult, shiftLeft_or_boolByte, toNat_getLsbD, hbit]

/-- A rotate right puts bit 0 in at the high end (40_arith_logic.md R184). -/
theorem rotResult_rrc (v : Byte) (c : Bool) : rotResult .rrc v c = BitVec.ofNat 8 (v.toNat / 2 + 128 * (v.toNat % 2)) := by
  rw [rotResult, shiftRight_or_boolByte, toNat_getLsbD, Nat.pow_zero, Nat.div_one]

/-- A rotate left through carry puts the carry in at the low end (40_arith_logic.md R185). -/
theorem rotResult_rl (v : Byte) (c : Bool) : rotResult .rl v c = BitVec.ofNat 8 (2 * v.toNat % 256 + c.toNat) :=
  shiftLeft_or_boolByte v c

/-- A rotate right through carry puts the carry in at the high end (40_arith_logic.md R186). -/
theorem rotResult_rr (v : Byte) (c : Bool) : rotResult .rr v c = BitVec.ofNat 8 (v.toNat / 2 + 128 * c.toNat) :=
  shiftRight_or_boolByte v c

/-- An accumulator rotate: the byte and the carry that the rotate gives, every other flag cleared (40_arith_logic.md R183 to R186). -/
theorem rotAcc_eq {s : State} {op : Rot} {r : Nat} {carry : Bool} (hresult : rotResult op s.a s.cf = BitVec.ofNat 8 r)
    (hcarry : rotCarry op s.a = carry) :
    rotAcc s op = { s with a := BitVec.ofNat 8 r, f := packFlags false false false carry } := by
  rw [rotAcc, State.setFlags_eq, hresult, hcarry]

/-- The decimal correction: 6 for the low digit, 96 for the high one (40_arith_logic.md R187). -/
theorem toNat_daaAdjust (a : Byte) (n h c : Bool) :
    (daaAdjust a n h c).toNat = 6 * (daaLow a n h).toNat + 96 * (daaHigh a n c).toNat := by
  rw [daaAdjust]
  cases daaLow a n h <;> cases daaHigh a n c <;> rfl

/-- The adjusted accumulator, the subtraction kept above zero by 256 (40_arith_logic.md R187). -/
theorem daaResult_eq (a : Byte) (n h c : Bool) :
    daaResult a n h c = BitVec.ofNat 8 (if n then a.toNat + 256 - (daaAdjust a n h c).toNat
      else a.toNat + (daaAdjust a n h c).toNat) := by
  have hadj := (daaAdjust a n h c).isLt
  apply BitVec.eq_of_toNat_eq
  cases n
  case false => simp [daaResult]
  case true =>
    rw [daaResult, if_pos rfl, if_pos rfl, BitVec.toNat_sub, BitVec.toNat_ofNat]
    omega

/-- `DAA` (40_arith_logic.md R187). -/
theorem decimalAdjust_eq (s : State) : decimalAdjust s =
    let adj := 6 * (daaLow s.a s.nf s.hf).toNat + 96 * (daaHigh s.a s.nf s.cf).toNat
    let t := if s.nf then s.a.toNat + 256 - adj else s.a.toNat + adj
    { s with a := BitVec.ofNat 8 t, f := packFlags (decide (t % 256 = 0)) s.nf false (daaHigh s.a s.nf s.cf) } := by
  simp [decimalAdjust, State.setFlags_eq, daaResult_eq, ofNat_beq_zero, toNat_daaAdjust]

/-- `CPL` (40_arith_logic.md R188). -/
theorem complement_eq (s : State) : complement s = { s with
    a := BitVec.ofNat 8 (255 - s.a.toNat), f := packFlags s.zf true true s.cf } := by
  have ha := s.a.isLt
  have hnot : s.a ^^^ 0xFF = BitVec.ofNat 8 (255 - s.a.toNat) := by
    apply BitVec.eq_of_toNat_eq
    rw [show (0xFF : Byte) = BitVec.allOnes 8 from rfl, BitVec.xor_allOnes, BitVec.toNat_not, BitVec.toNat_ofNat]
    omega
  rw [complement, State.setFlags_eq, hnot]

/-! ## The instructions -/

/-- The effect of an ALU operation on its operand's value. -/
def aluEffect : Alu → State → Byte → State
  | .add => addA
  | .adc => adcA
  | .sub => subA
  | .sbc => sbcA
  | .and => andA
  | .xor => xorA
  | .or => orA
  | .cp => cpA

/-- An instruction that cannot raise, halt or jump: its effect, and pc and CYC advanced (60_exceptions.md R362). -/
theorem retire_of_normal {d : Descriptor} {s t u : State} (hcls : d.cls = .normal) (hct : d.ct = false) (heffect : t = u) :
    retire d s t = .next { u with pc := s.pc + BitVec.ofNat 16 d.len, cyc := s.cyc + BitVec.ofNat 64 d.cycles } := by
  simp [retire_eq, commit, hcls, hct, heffect, costOf, State.next_eq]

/-- What an ALU instruction executes, whatever its source (40_arith_logic.md R151 to R174). -/
theorem exec_alu (op : Alu) (src : Src) (s : State) :
    exec (.alu op src) s = .next { aluEffect op s (s.operand src) with pc := s.pc + src.len, cyc := s.cyc + src.cost } := by
  cases src with
  | reg r => cases op <;> cases r <;> exact retire_of_normal rfl rfl rfl
  | atHl => cases op <;> exact retire_of_normal rfl rfl rfl
  | imm n => cases op <;> exact retire_of_normal rfl rfl rfl

/-- The bytes of an ALU instruction (30_encoding.md R97). -/
theorem encode_alu (op : Alu) (src : Src) : encode (.alu op src) = src.bytes op.number := by
  cases src with
  | reg r => cases op <;> cases r <;> rfl
  | atHl => cases op <;> rfl
  | imm n => cases op <;> exact congrArg (fun b => [_, b]) (loByte_zext16 n)

/-! ## The obligations -/

/-- Settles O33: the sums of `add8`, without and with the old carry. -/
theorem addAndAddWithCarry : Obligations.AddAndAddWithCarry := by
  intro src s
  refine ⟨encode_alu .add src, encode_alu .adc src, ?_, ?_⟩
  · rw [exec_alu, aluEffect, addA_eq]
  · rw [exec_alu, aluEffect, adcA_eq]

/-- Settles O34: the differences of `sub8`, without and with the old carry; `CP` keeps A. -/
theorem subtractAndCompare : Obligations.SubtractAndCompare := by
  intro src s
  refine ⟨encode_alu .sub src, encode_alu .sbc src, encode_alu .cp src, ?_, ?_, ?_⟩
  · rw [exec_alu, aluEffect, subA_eq]
  · rw [exec_alu, aluEffect, sbcA_eq]
  · rw [exec_alu, aluEffect, cpA_eq]

/-- Settles O35: a difference in no bit is equality, and no bit in either is zero in both. -/
theorem bitwiseLogic : Obligations.BitwiseLogic := by
  intro src s
  refine ⟨encode_alu .and src, encode_alu .xor src, encode_alu .or src, ?_, ?_, ?_⟩
  · rw [exec_alu, aluEffect, andA_eq]
  · rw [exec_alu, aluEffect, xorA_eq]
  · rw [exec_alu, aluEffect, orA_eq]

/-- Settles O36: the flags come from the old value, whose low nibble wraps at 15 and at 0. -/
theorem incrementDecrementRegister : Obligations.IncrementDecrementRegister := by
  intro r s
  refine ⟨?_, ?_, ?_, ?_⟩
  · cases r <;> rfl
  · cases r <;> rfl
  · cases r <;> exact retire_of_normal rfl rfl (incReg_eq s _)
  · cases r <;> exact retire_of_normal rfl rfl (decReg_eq s _)

/-- Settles O38: the sum of HL and the pair as numbers; the other two are the pair's own sum. -/
theorem pairArithmetic : Obligations.PairArithmetic := by
  intro p s
  refine ⟨?_, ?_, ?_, ?_, ?_, ?_⟩
  · cases p <;> rfl
  · cases p <;> rfl
  · cases p <;> rfl
  · cases p <;> exact retire_of_normal rfl rfl (addHl_eq s _)
  · cases p <;> exact retire_of_normal rfl rfl (congrArg (s.setPair _) (add_one_eq_ofNat _))
  · cases p <;> exact retire_of_normal rfl rfl (congrArg (s.setPair _) (sub_one_eq_ofNat _))

/-- Settles O39: the operand in two's complement for the sum, as a number for the flags. -/
theorem signedStackOffset : Obligations.SignedStackOffset := by
  intro n s
  have hbytes (op : Byte) : [op, loByte (zext16 n)] = [op, n] := by rw [loByte_zext16]
  exact ⟨hbytes 0xE8, hbytes 0xF8, retire_of_normal rfl rfl (addSp_eq s n), retire_of_normal rfl rfl (loadHlOffset_eq s n)⟩

/-- Settles O40: each rotate's byte and carry as numbers. -/
theorem accumulatorRotates : Obligations.AccumulatorRotates := by
  intro s
  refine ⟨rfl, rfl, rfl, rfl, ?_, ?_, ?_, ?_⟩
  · exact retire_of_normal rfl rfl (rotAcc_eq (rotResult_rlc s.a s.cf) (getLsbD_seven s.a))
  · exact retire_of_normal rfl rfl (rotAcc_eq (rotResult_rrc s.a s.cf) (getLsbD_zero s.a))
  · exact retire_of_normal rfl rfl (rotAcc_eq (rotResult_rl s.a s.cf) (getLsbD_seven s.a))
  · exact retire_of_normal rfl rfl (rotAcc_eq (rotResult_rr s.a s.cf) (getLsbD_zero s.a))

/-- Settles O41: the two corrections touch different bits, so their disjunction is their sum. -/
theorem decimalAdjust : Obligations.DecimalAdjust := by
  intro s
  exact ⟨rfl, retire_of_normal rfl rfl (decimalAdjust_eq s)⟩

/-- Settles O42: the complement is the difference from 255; the two carry instructions write flags alone. -/
theorem complementAndCarryFlag : Obligations.ComplementAndCarryFlag := by
  intro s
  refine ⟨rfl, rfl, rfl, ?_, ?_, ?_⟩
  · exact retire_of_normal rfl rfl (complement_eq s)
  · exact retire_of_normal rfl rfl (s.setFlags_eq s.zf false false true)
  · exact retire_of_normal rfl rfl (s.setFlags_eq s.zf false false (!s.cf))

end Sys2Proof
end

section
/-! Loads of a register and of A (41_load.md R221 to R223, R226, R227, R230, R233, R235, R237, R239). First the high page and the step
of HL as numbers; then the instructions, each by `retire_of_normal` applied to its operation's state. -/

namespace Sys2Proof

open Sys2Proof.Machine

/-- An address of the high page as a number; it does not wrap (41_load.md R233, R235). -/
theorem toNat_highPage (v : Byte) : (highPage v).toNat = 0xFF00 + v.toNat := by
  have hv := v.isLt
  have hbase : (0xFF00 : Word).toNat = 0xFF00 := rfl
  rw [highPage, zext16, BitVec.toNat_add, BitVec.toNat_setWidth, hbase]
  omega

/-- A load of A from the address with a given number (20_memory.md R62). -/
theorem setReg_a_read8 (s : State) {addr : Word} {i : Nat} (haddr : addr.toNat = i) :
    s.setReg .a (s.read8 addr) = { s with a := s.mem8 i } := by
  rw [State.read8, haddr]
  rfl

/-- A load of A that steps HL: the byte at the old HL, and the halves of the next HL made from its number (41_load.md R237, R239). -/
theorem loadStep_eq (s : State) {next : Word} {n : Nat} (hnext : next = BitVec.ofNat 16 n) : loadStep s next = { s with
    a := s.mem8 s.hl.toNat, h := BitVec.ofNat 8 (n % 65536 / 256), l := BitVec.ofNat 8 (n % 65536) } := by
  rw [loadStep, setReg_a_read8 s rfl, State.setHl, hiByte_eq_ofNat, loByte_eq_ofNat, hnext, BitVec.toNat_ofNat]

/-- Settles O43: each instruction is a write of its register; `LD r (HL)` reads at the old HL. -/
theorem loadRegister : Obligations.LoadRegister := by
  intro r r' n s
  refine ⟨?_, ?_, ?_, ?_, ?_, ?_⟩
  · cases r <;> cases r' <;> rfl
  · cases r <;> exact congrArg (fun b => [_, b]) (loByte_zext16 n)
  · cases r <;> rfl
  · cases r <;> cases r' <;> exact retire_of_normal rfl rfl rfl
  · cases r <;> exact retire_of_normal rfl rfl rfl
  · cases r <;> exact retire_of_normal rfl rfl rfl

/-- Settles O44: each load is a write of A; the high page and the next HL are taken as numbers. -/
theorem loadAccumulatorFromMemory : Obligations.LoadAccumulatorFromMemory := by
  intro n w s
  have hbytes : encode (.ldhAAtA8 n) = [0xF0, n] := congrArg (fun b => [0xF0, b]) (loByte_zext16 n)
  refine ⟨rfl, rfl, rfl, hbytes, rfl, rfl, rfl, ?_, ?_, ?_, ?_, ?_, ?_, ?_⟩
  · exact retire_of_normal rfl rfl (setReg_a_read8 s rfl)
  · exact retire_of_normal rfl rfl (setReg_a_read8 s rfl)
  · exact retire_of_normal rfl rfl (setReg_a_read8 s rfl)
  · exact retire_of_normal rfl rfl (setReg_a_read8 s (toNat_highPage n))
  · exact retire_of_normal rfl rfl (setReg_a_read8 s (toNat_highPage s.c))
  · exact retire_of_normal rfl rfl (loadStep_eq s (add_one_eq_ofNat s.hl))
  · exact retire_of_normal rfl rfl (loadStep_eq s (sub_one_eq_ofNat s.hl))

end Sys2Proof
end

section
/-! Extended space: the rotates, shifts and SWAP of a register, and BIT (42_bitops_ext.md R271 to R288). First the results that the
accumulator rotates do not have, as numbers; then the flags; then the instructions, each by `retire_of_normal` applied to its
operation's state. -/

namespace Sys2Proof

open Sys2Proof.Machine

/-! ## Results and flags as numbers -/

/-- A shift left puts 0 in at the low end (42_bitops_ext.md R279). -/
theorem rotResult_sla (v : Byte) (c : Bool) : rotResult .sla v c = BitVec.ofNat 8 (2 * v.toNat % 256) :=
  BitVec.or_zero.symm.trans (shiftLeft_or_boolByte v false)

/-- A logical shift right puts 0 in at the high end (42_bitops_ext.md R285). -/
theorem rotResult_srl (v : Byte) (c : Bool) : rotResult .srl v c = BitVec.ofNat 8 (v.toNat / 2) :=
  BitVec.or_zero.symm.trans (shiftRight_or_boolByte v false)

/-- A byte masked to bit 7 is that bit, put at the high end (42_bitops_ext.md R281). -/
theorem and_80_eq_boolByte (v : Byte) : v &&& (0x80 : Byte) = boolByte (v.getLsbD 7) <<< 7 := by
  rw [show (0x80 : Byte) = BitVec.twoPow 8 7 from rfl, BitVec.and_twoPow]
  cases v.getLsbD 7 <;> rfl

/-- An arithmetic shift right puts the old bit 7 in at the high end (42_bitops_ext.md R281). -/
theorem rotResult_sra (v : Byte) (c : Bool) : rotResult .sra v c = BitVec.ofNat 8 (v.toNat / 2 + 128 * (v.toNat / 128)) := by
  have hv := v.isLt
  have hbit : v.toNat / 2 ^ 7 % 2 = v.toNat / 128 := by omega
  rw [rotResult, and_80_eq_boolByte, shiftRight_or_boolByte, toNat_getLsbD, hbit]

/-- SWAP moves the low digit up and the high digit down (42_bitops_ext.md R283). -/
theorem rotResult_swap (v : Byte) (c : Bool) :
    rotResult .swap v c = BitVec.ofNat 8 (16 * (v.toNat % 16) + v.toNat / 16) := by
  have hv := v.isLt
  have hhigh : (v <<< 4).toNat = 2 ^ 4 * (v.toNat % 16) := by
    rw [BitVec.toNat_shiftLeft, Nat.shiftLeft_eq]
    omega
  have hlow : v.toNat / 2 ^ 4 < 2 ^ 4 := by omega
  apply BitVec.eq_of_toNat_eq
  rw [rotResult, BitVec.toNat_or, hhigh, BitVec.toNat_ushiftRight, Nat.shiftRight_eq_div_pow,
    ← Nat.two_pow_add_eq_or_of_lt hlow, BitVec.toNat_ofNat]
  omega

/-- The flags of a rotate, shift or swap whose result is the number `r`: Z 0 0 C (42_bitops_ext.md section 5). -/
theorem rotFlags_eq {s : State} {op : Rot} {v : Byte} {r : Nat} {carry : Bool}
    (hresult : rotResult op v s.cf = BitVec.ofNat 8 r) (hr : r < 256) (hcarry : rotCarry op v = carry) :
    rotFlags s op v = { s with f := packFlags (decide (r = 0)) false false carry } := by
  have hz : (BitVec.ofNat 8 r == 0) = decide (r = 0) := (ofNat_beq_zero r).trans (by rw [Nat.mod_eq_of_lt hr])
  rw [rotFlags, State.setFlags_eq, hresult, hz, hcarry]

/-- `Zf` after `BIT b`: the bit is 0 (42_bitops_ext.md R287). -/
theorem not_getLsbD_eq_decide (v : Byte) (b : Nat) : (!v.getLsbD b) = decide (v.toNat / 2 ^ b % 2 = 0) := by
  rw [← toNat_getLsbD]
  cases v.getLsbD b <;> rfl

/-- `BIT b` writes F and nothing else (42_bitops_ext.md R287, R288). -/
theorem testBit_eq (s : State) (v : Byte) (b : Nat) : testBit s v b = { s with
    f := packFlags (decide (v.toNat / 2 ^ b % 2 = 0)) false true s.cf } := by
  rw [testBit, State.setFlags_eq, not_getLsbD_eq_decide]

/-! ## The instructions -/

/-- A rotate, shift or swap of a register whose result is the number `res` (42_bitops_ext.md R271 to R285). -/
theorem rotReg_eq {s : State} {op : Rot} {r : Reg8} {res : Nat} {carry : Bool}
    (hresult : rotResult op (s.reg r) s.cf = BitVec.ofNat 8 res) (hres : res < 256) (hcarry : rotCarry op (s.reg r) = carry) :
    rotReg s op r = { s.setReg r (BitVec.ofNat 8 res) with f := packFlags (decide (res = 0)) false false carry } := by
  rw [rotReg, rotFlags_eq hresult hres hcarry, hresult]
  cases r <;> rfl

/-- The bytes of a rotate, shift or swap of a register (42_bitops_ext.md R270). -/
theorem encode_rot (op : Rot) (r : Reg8) : encode (.rot op r) = [0xCB, BitVec.ofNat 8 (8 * op.number + r.number)] := by
  cases op <;> cases r <;> rfl

/-- What a rotate, shift or swap of a register executes (42_bitops_ext.md R270). -/
theorem exec_rot (op : Rot) (r : Reg8) (s : State) :
    exec (.rot op r) s = .next { rotReg s op r with pc := s.pc + 2, cyc := s.cyc + 8 } := by
  cases op <;> cases r <;> exact retire_of_normal rfl rfl rfl

/-- The bytes of `BIT b r` (42_bitops_ext.md R287). -/
theorem encode_bit (b : Fin 8) (r : Reg8) : encode (.bit b r) = [0xCB, BitVec.ofNat 8 (0x40 + 8 * b.val + r.number)] := by
  cases r <;> fin_cases b <;> rfl

/-- The bytes of `BIT b (HL)` (42_bitops_ext.md R288). -/
theorem encode_bitHl (b : Fin 8) : encode (.bitHl b) = [0xCB, BitVec.ofNat 8 (0x46 + 8 * b.val)] := by
  fin_cases b <;> rfl

/-- What `BIT b r` executes (42_bitops_ext.md R287). -/
theorem exec_bit (b : Fin 8) (r : Reg8) (s : State) :
    exec (.bit b r) s = .next { testBit s (s.reg r) b with pc := s.pc + 2, cyc := s.cyc + 8 } := by
  cases r <;> fin_cases b <;> exact retire_of_normal rfl rfl rfl

/-- What `BIT b (HL)` executes (42_bitops_ext.md R288). -/
theorem exec_bitHl (b : Fin 8) (s : State) :
    exec (.bitHl b) s = .next { testBit s (s.mem8 s.hl.toNat) b with pc := s.pc + 2, cyc := s.cyc + 12 } := by
  fin_cases b <;> exact retire_of_normal rfl rfl rfl

/-! ## The obligations -/

/-- Settles O48: each result and each carry as a number, every result below 256, so that Zf tests the number itself. -/
theorem rotateRegister : Obligations.RotateRegister := by
  intro r s v c does
  have hv : v < 256 := (s.reg r).isLt
  have hc : c < 2 := s.cf.toNat_lt
  have hdoes (o : Rot) {res : Nat} {carry : Bool} (hresult : rotResult o (s.reg r) s.cf = BitVec.ofNat 8 res)
      (hres : res < 256) (hcarry : rotCarry o (s.reg r) = carry) : does o res carry :=
    ⟨encode_rot o r, by rw [exec_rot, rotReg_eq hresult hres hcarry]⟩
  refine ⟨?_, ?_, ?_, ?_, ?_, ?_, ?_, ?_⟩
  · exact hdoes .rlc (rotResult_rlc _ _) (by omega) (getLsbD_seven _)
  · exact hdoes .rrc (rotResult_rrc _ _) (by omega) (getLsbD_zero _)
  · exact hdoes .rl (rotResult_rl _ _) (by omega) (getLsbD_seven _)
  · exact hdoes .rr (rotResult_rr _ _) (by omega) (getLsbD_zero _)
  · exact hdoes .sla (rotResult_sla _ _) (by omega) (getLsbD_seven _)
  · exact hdoes .sra (rotResult_sra _ _) (by omega) (getLsbD_zero _)
  · exact hdoes .swap (rotResult_swap _ _) (by omega) rfl
  · exact hdoes .srl (rotResult_srl _ _) (by omega) (getLsbD_zero _)

/-- Settles O50: the tested bit as a digit of the byte's number; the byte at HL is the memory byte, 0 past the end. -/
theorem testBit : Obligations.TestBit := by
  intro b r s
  refine ⟨encode_bit b r, encode_bitHl b, ?_, ?_⟩
  · rw [exec_bit, testBit_eq]
  · rw [exec_bitHl, testBit_eq]

end Sys2Proof
end

section
/-! The conditions and the jumps (44_control.md R311 to R316). First the target of a relative jump as a number; then the two ends of a
control transfer, where pc is the effect's own; then the conditional jumps, each once for all four conditions. -/

namespace Sys2Proof

open Sys2Proof.Machine

/-! ## The target of a relative jump, and the ends of a transfer -/

/-- A signed operand counts from the advanced address, whose own wrap is lost in that of the sum (44_control.md R315). -/
theorem addSigned_add_ofNat (w : Word) (len : Nat) (n : Byte) :
    addSigned (w + BitVec.ofNat 16 len) n = BitVec.ofInt 16 ((w.toNat : Int) + len + n.toInt) := by
  apply BitVec.eq_of_toNat_eq
  rw [addSigned, sext8_eq_toInt, BitVec.toNat_ofInt, BitVec.toNat_ofInt, BitVec.toNat_add, BitVec.toNat_ofNat]
  omega

/-- A relative jump counts from the instruction after its two bytes (44_control.md R315). -/
theorem jumpBy_eq (s : State) {d : Descriptor} (n : Byte) (hlen : d.len = 2) :
    jumpBy s d n = { s with pc := BitVec.ofInt 16 ((s.pc.toNat : Int) + 2 + n.toInt) } := by
  rw [jumpBy, State.next_eq, addSigned_add_ofNat, hlen]
  rfl

/-- A control transfer that cannot raise: its effect, pc among it, and CYC advanced (44_control.md R310). -/
theorem retire_of_transfer {d : Descriptor} {s t u : State} (hcls : d.cls = .normal) (hct : d.ct = true) (heffect : t = u) :
    retire d s t = .next { u with cyc := s.cyc + BitVec.ofNat 64 d.cycles } := by
  simp [retire_eq, commit, hcls, hct, heffect, costOf]

/-- A conditional transfer that cannot raise: as `retire_of_transfer` when taken, else pc and CYC advanced (44_control.md R310). -/
theorem retireCond_of_transfer {d : Descriptor} {s t u : State} {taken : Bool} (hcls : d.cls = .normal) (hct : d.ct = true)
    (heffect : t = u) : retireCond d s taken (.ok t) = .next (if taken then { u with cyc := s.cyc + BitVec.ofNat 64 d.cycles }
      else { s with pc := s.pc + BitVec.ofNat 16 d.len, cyc := s.cyc + BitVec.ofNat 64 d.cyclesNt }) := by
  cases taken with
  | true => exact retire_of_transfer hcls hct heffect
  | false => simp [retireCond_false, commit, hcls, hct, costOf, State.next_eq]

/-! ## The instructions -/

/-- The bytes of `JP cc a16` (44_control.md R313). -/
theorem encode_jpCond (cc : Cond) (w : Word) :
    encode (.jpCond cc w) = [BitVec.ofNat 8 (0xC2 + 8 * cc.number), loByte w, hiByte w] := by
  cases cc <;> rfl

/-- The bytes of `JR cc r8` (44_control.md R316). -/
theorem encode_jrCond (cc : Cond) (n : Byte) : encode (.jrCond cc n) = [BitVec.ofNat 8 (0x20 + 8 * cc.number), n] := by
  cases cc <;> exact congrArg (fun b => [_, b]) (loByte_zext16 n)

/-- What `JP cc a16` executes (44_control.md R313). -/
theorem exec_jpCond (cc : Cond) (w : Word) (s : State) :
    exec (.jpCond cc w) s = .next (if s.cond cc then { s with pc := w, cyc := s.cyc + 16 }
      else { s with pc := s.pc + 3, cyc := s.cyc + 12 }) := by
  cases cc <;> exact retireCond_of_transfer rfl rfl rfl

/-- What `JR cc r8` executes (44_control.md R316). -/
theorem exec_jrCond (cc : Cond) (n : Byte) (s : State) :
    exec (.jrCond cc n) s = .next (if s.cond cc
      then { s with pc := BitVec.ofInt 16 ((s.pc.toNat : Int) + 2 + n.toInt), cyc := s.cyc + 12 }
      else { s with pc := s.pc + 2, cyc := s.cyc + 8 }) := by
  cases cc <;> exact retireCond_of_transfer rfl rfl (jumpBy_eq s n rfl)

/-! ## The obligation -/

/-- Settles O54: an unconditional jump retires its effect on pc; a conditional one either does so or falls through. -/
theorem jumps : Obligations.Jumps := by
  intro cc n w s rel
  have hjr : encode (.jrR8 n) = [0x18, n] := congrArg (fun b => [0x18, b]) (loByte_zext16 n)
  refine ⟨rfl, rfl, rfl, rfl, rfl, encode_jpCond cc w, rfl, hjr, encode_jrCond cc n, ?_, ?_, ?_, ?_, ?_⟩
  · exact retire_of_transfer rfl rfl rfl
  · exact exec_jpCond cc w s
  · exact retire_of_transfer rfl rfl rfl
  · exact retire_of_transfer rfl rfl (jumpBy_eq s n rfl)
  · exact exec_jrCond cc n s

end Sys2Proof
end

section
/-! `step()` is total (60_exceptions.md R385). The one answer that is no next state is the refusal of the prefix slot, and no fetch
gives that instruction: what the decoder answers is well-formed, so its class is not `prefix`. -/

namespace Sys2Proof

open Sys2Proof.Machine

/-- A well-formed struct is not of class `prefix` (10_state.md R33). -/
theorem RawInstr.desc_cls_ne_prefixSlot {absent : List Byte} {x : RawInstr} (hwf : x.wellFormed absent = true) :
    x.desc.cls ≠ .prefixSlot := by
  obtain ⟨ext, op, v0, v1⟩ := x
  cases ext
  case false =>
    obtain ⟨hop, _⟩ := (wellFormed_base_iff absent op v0 v1).mp hwf
    exact mt (baseCat_prefixSlot_iff op).mp hop
  case true =>
    obtain ⟨_, _, _, hcls⟩ := extCat_shape op
    simp [desc, lookup, hcls]

/-- A fetched instruction is not of class `prefix` (30_encoding.md R110). -/
theorem cls_ne_prefixSlot_of_fetch {s : State} {i : Instr} {n : Nat} (hfetch : fetch s = .ok (i, n)) :
    i.desc.cls ≠ .prefixSlot := by
  obtain ⟨hwf, _⟩ := (decode_eq_ok_iff s.extAbsent s.source s.pc.toNat n i).mp hfetch
  exact RawInstr.desc_cls_ne_prefixSlot hwf

/-- An instruction of another class than `prefix` has a next state: every other form of an answer is one. -/
theorem exists_exec_eq_next {i : Instr} (hcls : i.desc.cls ≠ .prefixSlot) (s : State) : ∃ t, exec i s = .next t := by
  have hanswers := exec_answers i s
  generalize exec i s = answer at hanswers ⊢
  cases hanswers with
  | refused hprefix => exact absurd hprefix hcls
  | done | storeError | fallThrough | illegal => exact ⟨_, rfl⟩

/-- A step has a next state, by its cases: terminal, overrun, decoder error, instruction (60_exceptions.md R362). -/
theorem exists_step_eq_next (s : State) : ∃ t, step s = .next t := by
  unfold step
  split
  next =>
    split
    next => exact ⟨_, rfl⟩
    next =>
      split
      next => exact ⟨_, rfl⟩
      next hfetch => exact exists_exec_eq_next (cls_ne_prefixSlot_of_fetch hfetch) s
  next => exact ⟨_, rfl⟩

/-- Settles O4: a step has a next state, and it is one answer, so that state is the only one. -/
theorem stepHasExactlyOneSuccessor : Obligations.StepHasExactlyOneSuccessor := by
  intro s
  obtain ⟨t, ht⟩ := exists_step_eq_next s
  exact ⟨t, ht, fun u hu => Host.Outcome.next.inj (hu.symm.trans ht)⟩

end Sys2Proof
end

section
/-! What one instruction did to the state, from the five forms of its answer (`exec_answers`): it either completed with an effect that
its descriptor allows, or failed and wrote `ST` and `ERR` alone. The invariant, the frame of memory, the flag column, pc and CYC
follow from these two (10_state.md R28, R29, R36, 20_memory.md R69, 60_exceptions.md R362 to R376). -/

namespace Sys2Proof

open Sys2Proof.Machine

/-! ## The descriptor of an instruction -/

/-- The descriptor of an instruction stands in one of the two grids, at its own selector (10_state.md R32). -/
theorem Instr.desc_eq_cat (i : Instr) : ∃ op, i.desc = baseCat op ∨ i.desc = extCat op := by
  rw [Instr.desc]
  obtain ⟨ext, op, v0, v1⟩ := i.toRaw
  refine ⟨op, ?_⟩
  cases ext
  case false => exact .inl rfl
  case true =>
    obtain ⟨_, _, _, _, hd⟩ := extCat_eq_extEntry op
    exact .inr (by simp [RawInstr.desc, lookup, hd, extEntry])

/-- A control transfer of the base grid has no flag in its mask (44_control.md R310). -/
theorem baseCat_flags_of_ct (op : Byte) : (baseCat op).ct = true → (baseCat op).flags = flxxxx := by
  revert op
  apply forall_byte_of_grid
  intro row col
  fin_cases row <;> fin_cases col <;> decide

/-- A control transfer has no flag in its mask (44_control.md R310). -/
theorem Instr.flags_of_ct {i : Instr} (hct : i.desc.ct = true) : i.desc.flags = flxxxx := by
  obtain ⟨op, hbase | hext⟩ := i.desc_eq_cat
  · rw [hbase] at hct ⊢
    exact baseCat_flags_of_ct op hct
  · obtain ⟨_, _, _, _, hd⟩ := extCat_eq_extEntry op
    rw [hext, hd] at hct
    cases hct

/-- An instruction of another class than `normal` is that of its selector in the base grid (30_encoding.md R120). -/
theorem Instr.exists_base_of_cls {i : Instr} (hcls : i.desc.cls ≠ .normal) :
    ∃ op v0 v1, i = RawInstr.toInstr ⟨false, op, v0, v1⟩ ∧ i.desc = baseCat op := by
  have hback := i.toInstr_toRaw
  rw [Instr.desc] at hcls ⊢
  generalize i.toRaw = x at hback hcls ⊢
  obtain ⟨ext, op, v0, v1⟩ := x
  cases ext
  case false => exact ⟨op, v0, v1, hback.symm, rfl⟩
  case true =>
    obtain ⟨_, _, _, hnormal⟩ := extCat_shape op
    exact absurd hnormal hcls

/-- `PREFIX CB` is the one instruction of its class (30_encoding.md R110). -/
theorem Instr.eq_prefixCb_of_cls {i : Instr} (hcls : i.desc.cls = .prefixSlot) : i = .prefixCb := by
  obtain ⟨op, _, _, hi, hd⟩ := exists_base_of_cls (i := i) (by rw [hcls]; decide)
  rw [hd] at hcls
  obtain rfl := (baseCat_prefixSlot_iff op).mp hcls
  exact hi

/-! ## The two ends of an instruction -/

/-- The form of an answer that is a next state. -/
theorem answers_of_exec {i : Instr} {s t : State} (h : exec i s = .next t) :
    Answers i.desc s (i.storesAt s) (.next t) := h ▸ exec_answers i s

/-- A next state commits an effect that the descriptor allows, or is a failure; to fall through is the effect of advancing pc. -/
theorem exec_cases {i : Instr} {s t : State} (h : exec i s = .next t) :
    (∃ taken u, EffectOf i.desc s u (i.storesAt s) ∧ t = commit i.desc taken s u) ∨ ∃ e, t = s.fail e := by
  cases answers_of_exec h with
  | done u heffect _ => exact .inl ⟨true, u, heffect, rfl⟩
  | storeError x _ => exact .inr ⟨_, rfl⟩
  | illegal _ _ => exact .inr ⟨_, rfl⟩
  | fallThrough hct hnostore _ =>
    have hstores : StoresOnly s { s with pc := s.next i.desc } [] := .registers rfl rfl rfl rfl rfl rfl
    exact .inl ⟨false, _, hnostore ▸ .plain (Instr.flags_of_ct hct) hstores rfl, rfl⟩

/-- From a Running engine a commit ends in Running or, of class `halt`, in Halted (60_exceptions.md R362). -/
theorem commit_st_of_running {d : Descriptor} {s u : State} {xs : List Word} (taken : Bool) (hrun : s.st = .running)
    (heffect : EffectOf d s u xs) : (commit d taken s u).st = if d.cls = .halt then .halted else .running := by
  rw [commit_st, heffect.stores.st, hrun]

/-- From a Running engine a commit does not end in Failed (60_exceptions.md R362). -/
theorem commit_st_ne_failed {d : Descriptor} {s u : State} {xs : List Word} (taken : Bool) (hrun : s.st = .running)
    (heffect : EffectOf d s u xs) : (commit d taken s u).st ≠ .failed := by
  rw [commit_st_of_running taken hrun heffect]
  split <;> decide

/-! ## The invariant -/

/-- A failure keeps the invariant: it writes `ST` and `ERR` together (60_exceptions.md R366). -/
theorem inv_fail {s : State} (hinv : s.Inv) (e : Err) : (s.fail e).Inv where
  memOk := hinv.memOk.congr rfl rfl
  flagsLow := hinv.flagsLow
  errIffFailed := by simp

/-- A commit from Running keeps the invariant (60_exceptions.md R362). -/
theorem inv_commit {d : Descriptor} {s u : State} {xs : List Word} (taken : Bool) (hrun : s.st = .running) (hinv : s.Inv)
    (heffect : EffectOf d s u xs) : (commit d taken s u).Inv where
  memOk := (heffect.stores.memOk hinv.memOk).congr rfl rfl
  flagsLow := heffect.flagsLow hinv.flagsLow
  errIffFailed := by
    have hnone : ¬s.err.isSome = true := fun h => by simpa [hrun] using hinv.errIffFailed.mp h
    rw [commit_err, heffect.stores.err]
    exact iff_of_false hnone (commit_st_ne_failed taken hrun heffect)

/-- Settles O3: a terminal state stays, every error is a failure, and an instruction commits or fails. -/
theorem stepKeepsTheInvariant : Obligations.StepKeepsTheInvariant := by
  intro s t hinv hstep
  obtain ⟨_, rfl⟩ | ⟨_, _, rfl⟩ | ⟨_, _, e, _, rfl⟩ | ⟨hrun, _, i, n, _, hexec⟩ := step_cases hstep
  · exact hinv
  · exact inv_fail hinv _
  · exact inv_fail hinv e
  · obtain ⟨taken, u, heffect, rfl⟩ | ⟨e, rfl⟩ := exec_cases hexec
    · exact inv_commit taken hrun hinv heffect
    · exact inv_fail hinv e

/-! ## Memory -/

/-- Settles O14: a commit has the memory of its effect, and a failure that of the state before. -/
theorem memoryFrameOfEveryInstruction : Obligations.MemoryFrameOfEveryInstruction := by
  intro i s t hexec
  obtain ⟨taken, u, ⟨hstores, _⟩, rfl⟩ | ⟨e, rfl⟩ := exec_cases hexec
  · refine ⟨fun k hk => ?_, hstores.none⟩
    simp only [State.mem8, commit_mem, commit_memSize, hstores.memSize, hstores.frame k hk]
  · exact ⟨fun k _ => s.mem8_congr (s.fail e) k rfl rfl, fun _ => rfl⟩

/-- An instruction leaves N, the parameters, and the cells at or past N: its stores are all below N (20_memory.md R60, R63). -/
theorem exec_leaves_past_end {i : Instr} {s t : State} (hexec : exec i s = .next t) :
    t.memSize = s.memSize ∧ t.extAbsent = s.extAbsent ∧ ∀ k, s.memSize ≤ k → t.mem.read k = s.mem.read k := by
  obtain ⟨taken, u, ⟨hstores, _⟩, rfl⟩ | ⟨e, rfl⟩ := exec_cases hexec
  · refine ⟨hstores.memSize, hstores.extAbsent, fun k hk => hstores.frame k fun x hx => ?_⟩
    have hbelow := hstores.below x hx
    omega
  · exact ⟨rfl, rfl, fun _ _ => rfl⟩

/-- Settles O13: a step that runs no instruction writes no memory. -/
theorem onlyCellsBelowNAreWritten : Obligations.OnlyCellsBelowNAreWritten := by
  intro s t hstep
  obtain ⟨_, rfl⟩ | ⟨_, _, rfl⟩ | ⟨_, _, e, _, rfl⟩ | ⟨_, _, i, n, _, hexec⟩ := step_cases hstep
  · exact ⟨rfl, rfl, fun _ _ => rfl⟩
  · exact ⟨rfl, rfl, fun _ _ => rfl⟩
  · exact ⟨rfl, rfl, fun _ _ => rfl⟩
  · exact exec_leaves_past_end hexec

/-- An instruction with a first address out of range fails with that address (60_exceptions.md R373). -/
theorem exec_of_firstBad {i : Instr} {s : State} {x : Word} (hbad : firstBad s (i.storesAt s) = some x) :
    exec i s = .next (s.fail (.storeOutOfRange x s.pc)) := by
  have hnonempty : i.storesAt s ≠ [] := fun h => by simp [h, firstBad_nil] at hbad
  have hanswers := exec_answers i s
  generalize exec i s = answer at hanswers
  cases hanswers with
  | done u _ hok => cases hok.symm.trans hbad
  | storeError y hy =>
    cases hy.symm.trans hbad
    rfl
  | fallThrough _ hnostore _ => exact absurd hnostore hnonempty
  | illegal _ hnostore => exact absurd hnostore hnonempty
  | refused hcls => exact absurd (congrArg (·.storesAt s) (Instr.eq_prefixCb_of_cls hcls)) hnonempty

/-- An instruction without an address out of range does not fail in that way: a commit leaves `ERR`, and the class `illegal` has
another error (60_exceptions.md R373). -/
theorem err_ne_storeOutOfRange {i : Instr} {s t : State} (hbad : firstBad s (i.storesAt s) = none) (hnone : s.err = none)
    (hexec : exec i s = .next t) (x p : Word) : t.err ≠ some (.storeOutOfRange x p) := by
  cases answers_of_exec hexec with
  | done u heffect _ => simp [heffect.stores.err, hnone]
  | storeError y hy => cases hy.symm.trans hbad
  | fallThrough _ _ _ => simp [hnone]
  | illegal _ _ => simp

/-- Settles O46: by whether an address of the instruction is out of range. -/
theorem storeOutOfRangeExactly : Obligations.StoreOutOfRangeExactly := by
  intro i s
  split
  next x hbad => exact exec_of_firstBad hbad
  next hbad => exact fun t x p hnone hexec => err_ne_storeOutOfRange hbad hnone hexec x p

/-! ## The flag column -/

/-- A flag that obeys its character is kept, cleared or set as the character says (30_encoding.md R124). -/
theorem flagOk_spelled {e : FlagEffect} {old new : Bool} (h : FlagOk e old new) (done : Bool) :
    (e = .keep → new = old) ∧ (done = true → e = .clear → new = false) ∧ (done = true → e = .set → new = true) := by
  cases e <;> simp_all [FlagOk]

/-- Settles O15: a commit has the flags of its effect; a failure keeps them and is not done. -/
theorem flagColumnIsObeyed : Obligations.FlagColumnIsObeyed := by
  unfold Obligations.FlagColumnIsObeyed
  intro ok i s t hrun hexec done
  obtain ⟨taken, u, heffect, rfl⟩ | ⟨e, rfl⟩ := exec_cases hexec
  · exact ⟨flagOk_spelled heffect.z done, flagOk_spelled heffect.n done, flagOk_spelled heffect.h done,
      flagOk_spelled heffect.c done⟩
  · have hkept (x : FlagEffect) (old : Bool) : ok x old old done :=
      ⟨fun _ => rfl, fun hdone => (Bool.false_ne_true hdone).elim, fun hdone => (Bool.false_ne_true hdone).elim⟩
    exact ⟨hkept _ _, hkept _ _, hkept _ _, hkept _ _⟩

/-! ## pc and CYC -/

/-- Settles O16: a commit advances pc by the declared length, as numbers modulo 65536. -/
theorem programCounterAdvance : Obligations.ProgramCounterAdvance := by
  intro i s t _ hexec hdone hct
  obtain ⟨taken, u, _, rfl⟩ | ⟨e, rfl⟩ := exec_cases hexec
  · have hnext : s.next i.desc = BitVec.ofNat 16 (s.pc.toNat + i.desc.len) := by
      rw [State.next_eq, BitVec.ofNat_add, BitVec.ofNat_toNat, BitVec.setWidth_eq]
    rw [commit_pc, hct, hnext]
    rfl
  · exact absurd rfl hdone

/-- Settles O17: by the form of the answer; to fall through writes pc and CYC alone. -/
theorem cycleAccounting : Obligations.CycleAccounting := by
  intro i s t hrun hexec
  cases answers_of_exec hexec with
  | done u heffect _ => exact .inr (.inl ⟨commit_st_ne_failed true hrun heffect, rfl⟩)
  | storeError x _ => exact .inl ⟨rfl, rfl⟩
  | illegal _ _ => exact .inl ⟨rfl, rfl⟩
  | fallThrough hct _ hcls =>
    refine .inr (.inr ⟨hct, ?_⟩)
    simp [commit, hcls, hct, costOf, State.next_eq]

end Sys2Proof
end

section
/-! Streams of encodings, and when the decoder gives which error (30_encoding.md R105 to R109, R112, R116). Both rest on the tests of
the decoder: the byte at the position, the byte after a prefix, and whether the operand's bytes are all there. -/

namespace Sys2Proof

open Sys2Proof.Machine

/-! ## Streams -/

/-- Where an instruction's encoding stands, stream iteration gives that instruction and goes on after it (30_encoding.md R109). -/
theorem decodeFrom_succ_of_holds {absent : List Byte} {src : Source} {pos last : Nat} {i : Instr} {is : List Instr} (fuel : Nat)
    (hwf : i.wellFormed absent = true) (hheld : src.Holds pos (encode i))
    (hrest : decodeFrom absent src fuel (pos + (encode i).length) = .ok (is, last)) :
    decodeFrom absent src (fuel + 1) pos = .ok (i :: is, last) := by
  have hdec := (decode_eq_ok_iff absent src pos _ i).mpr ⟨hwf, hheld, rfl⟩
  rw [length_encode] at hrest
  simp [decodeFrom, hdec, hrest]

/-- Stream iteration over encodings of well-formed instructions gives them back, when the source ends after them and the fuel is
above their number (30_encoding.md R109). -/
theorem decodeFrom_of_holds {absent : List Byte} {src : Source} {is : List Instr} {fuel pos : Nat}
    (hwf : ∀ i ∈ is, i.wellFormed absent = true) (hheld : src.Holds pos (is.map encode).flatten)
    (hend : src (pos + (is.map encode).flatten.length) = none) (hfuel : is.length < fuel) :
    decodeFrom absent src fuel pos = .ok (is, pos + (is.map encode).flatten.length) := by
  induction is generalizing fuel pos with
  | nil =>
    obtain ⟨fuel, rfl⟩ := Nat.exists_eq_add_of_lt hfuel
    have hraw : decodeRaw absent src pos = .error (.streamEnded pos) := decodeRaw_of_end absent (.inl hend)
    simp [decodeFrom, decode, hraw]
  | cons i is ih =>
    obtain ⟨fuel, rfl⟩ : ∃ k, fuel = k + 1 := ⟨fuel - 1, by omega⟩
    obtain ⟨hwfi, hwfs⟩ := List.forall_mem_cons.mp hwf
    simp only [List.map_cons, List.flatten_cons, Source.holds_append, List.length_append, ← Nat.add_assoc] at hheld hend ⊢
    obtain ⟨hheldi, hhelds⟩ := hheld
    exact decodeFrom_succ_of_holds fuel hwfi hheldi (ih hwfs hhelds hend (by simpa using hfuel))

/-- An instruction has one to three bytes (10_state.md R31). -/
theorem Instr.len_bounds (i : Instr) : 1 ≤ i.desc.len ∧ i.desc.len ≤ 3 := by
  rw [Instr.desc]
  obtain ⟨ext, op, v0, v1⟩ := i.toRaw
  obtain ⟨_, _, hpos, hle, _⟩ := catalogInvariants [] ext op
  exact ⟨hpos, hle⟩

/-- There are no more instructions than bytes of their encodings. -/
theorem length_le_length_encodings (is : List Instr) : is.length ≤ (is.map encode).flatten.length := by
  induction is with
  | nil => simp
  | cons i is ih =>
    obtain ⟨hone, _⟩ := i.len_bounds
    rw [← length_encode] at hone
    simp only [List.map_cons, List.flatten_cons, List.length_append, List.length_cons]
    omega

/-- Settles O23: the stream holds the encodings one after another, ends after them, and its fuel is above their number. -/
theorem streamsOfEncodingsDecodeBack : Obligations.StreamsOfEncodingsDecodeBack := by
  intro absent is hwf
  have hheld := (streamSource_holds_iff (is.map encode).flatten 0 _).mpr (List.prefix_refl _)
  have hend : streamSource (is.map encode).flatten (0 + (is.map encode).flatten.length) = none := by simp [streamSource]
  have hfuel := Nat.lt_succ_of_le (length_le_length_encodings is)
  simpa [decodeStream] using decodeFrom_of_holds hwf hheld hend hfuel

/-! ## The struct -/

/-- Settles O24: the bytes of a well-formed struct stand in their own stream, and the decoder answers that struct. -/
theorem structRoundTrip : Obligations.StructRoundTrip := by
  intro absent x
  refine ⟨fun hwf => by simp [encodeRaw, hwf], fun hwf => ⟨x.bytes, if_pos hwf, x.length_bytes, ?_, ?_⟩⟩
  · exact decodeRaw_of_holds hwf ((streamSource_holds_iff x.bytes 0 x.bytes).mpr (List.prefix_refl _))
  · exact RawInstr.toRaw_toInstr_of_wellFormed hwf

/-! ## The errors -/

/-- An operand cannot be read exactly when one of its bytes is missing (30_encoding.md R108). -/
theorem readOperand_eq_none_iff (src : Source) (k : OperandKind) (next : Nat) :
    readOperand src k next = none ↔ ∃ j, j < k.bytes ∧ src (next + j) = none := by
  have hone : (∃ j, j < 1 ∧ src (next + j) = none) ↔ src next = none := by simp
  have htwo : (∃ j, j < 2 ∧ src (next + j) = none) ↔ src next = none ∨ src (next + 1) = none := by
    simp [Nat.le_one_iff_eq_zero_or_eq_one]
  cases k
  case none => simp [readOperand]
  case u8 => rw [OperandKind.bytes_u8, hone]; cases h : src next <;> simp [readOperand, h]
  case s8 => rw [OperandKind.bytes_s8, hone]; cases h : src next <;> simp [readOperand, h]
  case u16 =>
    rw [OperandKind.bytes_u16, htwo]
    cases h : src next <;> cases h' : src (next + 1) <;> simp [readOperand, h, h']

/-- The decoder on instructions has the errors of the decoder on structs (30_encoding.md R101). -/
theorem decode_eq_error_iff (absent : List Byte) (src : Source) (pos : Nat) (e : Err) :
    decode absent src pos = .error e ↔ decodeRaw absent src pos = .error e := by
  unfold decode
  cases decodeRaw absent src pos <;> simp

/-- After a base selector the one error is a missing operand byte (30_encoding.md R108). -/
theorem decodeRaw_of_base_eq_error_iff (absent : List Byte) {src : Source} {pos : Nat} {op : Byte} (h0 : src pos = some op)
    (hop : op ≠ Config.extPrefix) (e : Err) :
    decodeRaw absent src pos = .error e ↔
      e = .truncatedOperand pos [op] ∧ ∃ j, j < (baseCat op).k0.bytes ∧ src (pos + 1 + j) = none := by
  rw [decodeRaw_of_base absent h0 hop, ← readOperand_eq_none_iff, readOperands, baseCat_k1]
  cases readOperand src (baseCat op).k0 (pos + 1) <;> simp [readOperand, eq_comm]

/-- Settles O26: by the byte at the position, none, the prefix or a base selector, and after the prefix by the next byte. -/
theorem decoderErrorOutcomes : Obligations.DecoderErrorOutcomes := by
  intro absent src pos p bytes
  simp only [decode_eq_error_iff]
  cases h0 : src pos with
  | none => simp [decodeRaw_of_end absent (.inl h0), eq_comm]
  | some op =>
    by_cases hop : op = Config.extPrefix
    · subst hop
      cases h1 : src (pos + 1) with
      | none => simp [decodeRaw_of_end absent (.inr ⟨h0, h1⟩), Config.extPrefix, eq_comm]
      | some b =>
        rw [decodeRaw_of_ext absent h0 h1]
        by_cases hb : b ∈ absent <;> simp [hb, Config.extPrefix, eq_comm, and_comm]
    · have hne : op ≠ 0xCB#8 := hop
      simp only [decodeRaw_of_base_eq_error_iff absent h0 hop]
      refine ⟨by simp [hne], by simp [hne], ?_⟩
      constructor
      · rintro ⟨⟨⟩, hmissing⟩
        exact ⟨rfl, op, hop, rfl, rfl, hmissing⟩
      · rintro ⟨rfl, _, _, ⟨⟩, rfl, hmissing⟩
        exact ⟨rfl, hmissing⟩

/-- Over memory, which never ends, the one error is an absent extended slot at pc (30_encoding.md R100, 60_exceptions.md R372). -/
theorem fetch_eq_error_iff (s : State) (e : Err) :
    fetch s = .error e ↔ s.mem8 s.pc.toNat = 0xCB ∧ s.mem8 (s.pc.toNat + 1) ∈ s.extAbsent ∧
      e = .unrecognizedOpcode [0xCB, s.mem8 (s.pc.toNat + 1)] s.pc.toNat := by
  rw [fetch, decode_eq_error_iff]
  by_cases hop : s.mem8 s.pc.toNat = Config.extPrefix
  · rw [decodeRaw_of_ext s.extAbsent (congrArg some hop) rfl]
    by_cases hb : s.mem8 (s.pc.toNat + 1) ∈ s.extAbsent <;> simp [hb, hop, Config.extPrefix, eq_comm]
  · rw [decodeRaw_of_base_eq_error_iff s.extAbsent rfl hop]
    have hne : s.mem8 s.pc.toNat ≠ 0xCB#8 := hop
    simp [hne, State.source]

/-- Settles O25: the one error over memory needs an absent slot, and what the decoder answers is well-formed, one to three bytes. -/
theorem memoryDecodeNeverFails : Obligations.MemoryDecodeNeverFails := by
  intro s habsent
  cases hfetch : fetch s with
  | error e =>
    obtain ⟨_, hmem, _⟩ := (fetch_eq_error_iff s e).mp hfetch
    simp [habsent] at hmem
  | ok x =>
    obtain ⟨i, n⟩ := x
    obtain ⟨hwf, _, rfl⟩ := (decode_eq_ok_iff s.extAbsent s.source s.pc.toNat n i).mp hfetch
    exact ⟨i, _, rfl, habsent ▸ hwf, rfl, i.len_bounds⟩

end Sys2Proof
end

section
/-! The opcode maps line by line (30_encoding.md R98, R99): the bytes of every instruction by the cases of its fields, and that every
byte is on exactly one line, read off the struct of an instruction. -/

namespace Sys2Proof

open Sys2Proof.Machine

/-! ## Every byte is one instruction -/

/-- Every first byte but the prefix begins a well-formed instruction: that selector with the operand 0 (30_encoding.md R98). -/
theorem exists_encode_head (b : Byte) (hb : b ≠ Config.extPrefix) :
    ∃ i : Instr, i.wellFormed [] = true ∧ (encode i).head? = some b := by
  have hraw := RawInstr.toRaw_toInstr false b 0 0
  have hfits : (baseCat b).k0.fits ((baseCat b).k0.canon 0) = true := by cases (baseCat b).k0 <;> decide
  refine ⟨RawInstr.toInstr ⟨false, b, 0, 0⟩, ?_, ?_⟩
  · rw [Instr.wellFormed, hraw, RawInstr.wellFormed_base_iff]
    exact ⟨hb, hfits, rfl⟩
  · rw [encode, hraw, RawInstr.bytes_base]
    rfl

/-- An encoding begins with the prefix or with the selector of its descriptor in the base grid (30_encoding.md R111). -/
theorem encode_head (i : Instr) :
    (encode i).head? = some Config.extPrefix ∨ ∃ op, (encode i).head? = some op ∧ i.desc = baseCat op := by
  rw [encode, Instr.desc]
  obtain ⟨ext, op, v0, v1⟩ := i.toRaw
  cases ext
  case false => exact .inr ⟨op, by rw [RawInstr.bytes_base]; rfl, rfl⟩
  case true => exact .inl (by rw [RawInstr.bytes_ext]; rfl)

/-- Two instructions with the same first byte, not the prefix, have the same descriptor (30_encoding.md R98). -/
theorem desc_eq_of_encode_head_eq {i j : Instr} (h : (encode i).head? = (encode j).head?)
    (hprefix : (encode i).head? ≠ some Config.extPrefix) : i.desc = j.desc := by
  obtain hi | ⟨op, hop, hi⟩ := encode_head i
  · exact absurd hi hprefix
  obtain hj | ⟨op', hop', hj⟩ := encode_head j
  · exact absurd (h.trans hj) hprefix
  obtain rfl : op = op' := Option.some.inj (hop.symm.trans (h.trans hop'))
  rw [hi, hj]

/-- The struct of an extended instruction is its selector alone (10_state.md R33). -/
theorem RawInstr.toRaw_toInstr_ext (op : Byte) (v0 v1 : Word) :
    (RawInstr.toInstr ⟨true, op, v0, v1⟩).toRaw = ⟨true, op, 0, 0⟩ := by
  simp [toRaw_toInstr, lookup, (extCat_shape op).2.1, OperandKind.canon]

/-- The prefix and a selector are the bytes of one instruction, the extended one with that selector (30_encoding.md R99). -/
theorem encode_eq_prefix_iff (i : Instr) (b : Byte) :
    encode i = [Config.extPrefix, b] ↔ i = RawInstr.toInstr ⟨true, b, 0, 0⟩ := by
  constructor
  · intro h
    rw [encode] at h
    rw [← i.toInstr_toRaw]
    have hback := congrArg Instr.toRaw i.toInstr_toRaw
    generalize i.toRaw = x at h hback ⊢
    obtain ⟨ext, op, v0, v1⟩ := x
    cases ext
    case false =>
      rw [RawInstr.bytes_base] at h
      obtain ⟨rfl, hoperand⟩ := List.cons_eq_cons.mp h
      cases hoperand
    case true =>
      rw [RawInstr.bytes_ext] at h
      obtain rfl : op = b := by simpa using h
      rw [← hback, RawInstr.toRaw_toInstr_ext]
  · rintro rfl
    rw [encode, RawInstr.toRaw_toInstr_ext, RawInstr.bytes_ext]

/-! ## The maps -/

/-- Settles O28: each line by the cases of its fields; the three lines on all bytes by the struct of an instruction. -/
theorem opcodeMaps : Obligations.OpcodeMaps := by
  unfold Obligations.OpcodeMaps
  intro op q r r' p sp cc a o n w t
  have hbyte (b : Byte) : [b, loByte (zext16 n)] = [b, n] := by rw [loByte_zext16]
  refine ⟨rfl, rfl, rfl,
    hbyte _, by cases cc <;> exact hbyte _,
    by cases p <;> rfl, by cases p <;> rfl,
    rfl, rfl, rfl,
    rfl, rfl, rfl,
    rfl, rfl,
    by cases p <;> rfl, by cases p <;> rfl,
    by cases r <;> rfl, rfl,
    by cases r <;> rfl, rfl,
    by cases r <;> exact hbyte _, hbyte _,
    rfl, rfl, rfl, rfl,
    rfl, rfl, rfl, rfl,
    by cases r <;> cases r' <;> rfl, by cases r <;> rfl,
    by cases r <;> rfl, rfl,
    by cases a <;> cases r <;> rfl, by cases a <;> rfl,
    by cases cc <;> rfl, hbyte _, hbyte _,
    hbyte _, hbyte _,
    by cases sp <;> rfl, rfl, rfl,
    rfl, rfl,
    by cases cc <;> rfl, rfl,
    rfl, rfl,
    rfl,
    rfl, rfl, rfl,
    by cases cc <;> rfl,
    by cases sp <;> rfl, rfl,
    by cases a <;> exact hbyte _, by fin_cases t <;> rfl,
    fun h => by cases h <;> rfl,
    by cases o <;> cases r <;> rfl, by cases o <;> rfl,
    by cases r <;> fin_cases t <;> rfl, by fin_cases t <;> rfl,
    by cases r <;> fin_cases t <;> rfl, by fin_cases t <;> rfl,
    by cases r <;> fin_cases t <;> rfl, by fin_cases t <;> rfl,
    exists_encode_head,
    fun i j _ _ => desc_eq_of_encode_head_eq,
    fun b => ⟨_, (encode_eq_prefix_iff _ b).mpr rfl, fun j => (encode_eq_prefix_iff j b).mp⟩⟩

/-! ## The encodings of the document -/

/-- Settles O27: closed words, which the decoder and the rendering evaluate. -/
theorem documentEncodingsDecode : Obligations.DocumentEncodingsDecode :=
  ⟨rfl, rfl, rfl, rfl, rfl, rfl, rfl, rfl, rfl, rfl, rfl, rfl, rfl, rfl⟩

end Sys2Proof
end

section
/-! One step of the engine: what it runs, how it fails, when it halts, and that a terminal state stays (60_exceptions.md R361 to R373).
By `step_cases` and `fetch_eq_error_iff` a statement about a step is one about the bytes at pc and one about an instruction. -/

namespace Sys2Proof

open Sys2Proof.Machine

/-! ## The instruction at pc -/

/-- A Running engine with pc below N runs what it fetched (60_exceptions.md R362). -/
theorem step_of_fetch {s : State} {i : Instr} {n : Nat} (hrun : s.st = .running) (hpc : s.pc.toNat < s.memSize)
    (hfetch : fetch s = .ok (i, n)) : step s = exec i s := by
  simp [step, hrun, hpc, hfetch]

/-- A Running engine with pc below N fails with the error of its fetch (60_exceptions.md R372). -/
theorem step_of_fetch_error {s : State} {e : Err} (hrun : s.st = .running) (hpc : s.pc.toNat < s.memSize)
    (hfetch : fetch s = .error e) : step s = .next (s.fail e) := by
  simp [step, hrun, hpc, hfetch]

/-- A source holds the bytes that it gives one after another (30_encoding.md R100). -/
theorem Source.holds_iff_getElem? (src : Source) (pos : Nat) (bs : List Byte) :
    src.Holds pos bs ↔ ∀ k, k < bs.length → src (pos + k) = bs[k]? := by
  induction bs generalizing pos with
  | nil => simp
  | cons b bs ih =>
    rw [Source.holds_cons, ih, List.length_cons, Nat.forall_lt_succ_left]
    simp [Nat.add_assoc, Nat.add_comm 1]

/-- The bytes at pc that are the encoding of a well-formed instruction are fetched as that instruction (30_encoding.md R116). -/
theorem fetch_of_encode {s : State} {i : Instr} (hwf : i.wellFormed s.extAbsent = true)
    (hheld : s.source.Holds s.pc.toNat (encode i)) : fetch s = .ok (i, i.desc.len) :=
  (decode_eq_ok_iff s.extAbsent s.source s.pc.toNat _ i).mpr ⟨hwf, hheld, rfl⟩

/-- Settles O5: a fetched instruction is run, and the encoding of a well-formed instruction is fetched. -/
theorem stepRunsTheDecodedInstruction : Obligations.StepRunsTheDecodedInstruction := by
  refine ⟨fun s i n hrun hpc hfetch => step_of_fetch hrun hpc hfetch, fun s i hrun hpc hwf hbytes => ?_⟩
  have hheld := (s.source.holds_iff_getElem? s.pc.toNat (encode i)).mpr hbytes
  exact step_of_fetch hrun hpc (fetch_of_encode hwf hheld)

/-! ## Failure and the terminal states -/

/-- Settles O6: the test of pc comes before the fetch. -/
theorem overrunFailsTheRun : Obligations.OverrunFailsTheRun := by
  intro s hrun hpc
  simp [step, hrun, hpc, State.fail_eq]

/-- Settles O8: an instruction of class `illegal` raises its own selector, which is its one byte. -/
theorem illegalBytesFailTheRun : Obligations.IllegalBytesFailTheRun := by
  intro h s
  cases h <;> exact ⟨rfl, rfl, rfl⟩

/-- Settles O7: an absent slot is the decoder's error; the byte of a hole is fetched as its own instruction. -/
theorem unrecognizedOpcodeAbortsTheRun : Obligations.UnrecognizedOpcodeAbortsTheRun := by
  constructor
  · rintro s _ hrun hpc hprefix rfl habsent
    exact step_of_fetch_error hrun hpc ((fetch_eq_error_iff s _).mpr ⟨hprefix, habsent, rfl⟩)
  · intro s h hrun hpc hbyte
    obtain ⟨hexec, hencode, hwf⟩ := illegalBytesFailTheRun h s
    have hheld : s.source.Holds s.pc.toNat (encode (.illegal h)) := by
      rw [hencode]
      exact ⟨congrArg some hbyte, trivial⟩
    rw [step_of_fetch hrun hpc (fetch_of_encode hwf hheld), hexec]

/-- Settles O9: it is not well-formed, and the decoder answers well-formed instructions alone. -/
theorem prefixSlotIsNoInstruction : Obligations.PrefixSlotIsNoInstruction := by
  have hwf (absent : List Byte) : Instr.prefixCb.wellFormed absent = false := rfl
  refine ⟨fun _ => rfl, hwf, fun absent src pos n hdec => ?_⟩
  obtain ⟨hwf', _⟩ := (decode_eq_ok_iff absent src pos n _).mp hdec
  cases (hwf absent).symm.trans hwf'

/-- Settles O10: a step looks at `ST` first. -/
theorem terminalStatesAreAbsorbing : Obligations.TerminalStatesAreAbsorbing := by
  rintro s (hst | hst) <;> simp [step, hst]

/-- A Running engine's instruction fails with the class `illegal` or with a store out of range (60_exceptions.md R372, R373). -/
theorem exec_failed {i : Instr} {s t : State} (hrun : s.st = .running) (hexec : exec i s = .next t) (hfailed : t.st = .failed) :
    ∃ e, t = s.fail e ∧ ((∃ bytes, e = .unrecognizedOpcode bytes s.pc.toNat) ∨
      ∃ x : Word, e = .storeOutOfRange x s.pc ∧ s.memSize ≤ x.toNat) := by
  cases answers_of_exec hexec with
  | done u heffect _ => exact absurd hfailed (commit_st_ne_failed true hrun heffect)
  | fallThrough _ _ hcls => simp [hcls, hrun] at hfailed
  | illegal _ _ => exact ⟨_, rfl, .inl ⟨_, rfl⟩⟩
  | storeError x hbad =>
    have hpast : s.memSize ≤ x.toNat := by simpa using List.find?_some hbad
    exact ⟨_, rfl, .inr ⟨x, rfl, hpast⟩⟩

/-- Settles O11: by the cases of a step from Running. -/
theorem failedStepChangesOnlyStAndErr : Obligations.FailedStepChangesOnlyStAndErr := by
  intro s t hrun hstep hfailed
  obtain ⟨hst, _⟩ | ⟨_, hpc, rfl⟩ | ⟨_, _, e, hfetch, rfl⟩ | ⟨_, _, i, n, _, hexec⟩ := step_cases hstep
  · exact absurd hrun hst
  · exact ⟨_, rfl, .inl ⟨rfl, hpc⟩⟩
  · obtain ⟨_, _, rfl⟩ := (fetch_eq_error_iff s e).mp hfetch
    exact ⟨_, rfl, .inr (.inl ⟨_, rfl⟩)⟩
  · obtain ⟨e, rfl, herror⟩ := exec_failed hrun hexec hfailed
    exact ⟨e, rfl, .inr herror⟩

/-! ## HALT -/

/-- The class `halt` is that of the byte 0x76 alone (30_encoding.md R124). -/
theorem baseCat_halt_iff (op : Byte) : (baseCat op).cls = .halt ↔ op = 0x76 := by
  revert op
  apply forall_byte_of_grid
  intro row col
  fin_cases row <;> fin_cases col <;> decide

/-- `HALT` is the one instruction of its class (45_system.md R342). -/
theorem Instr.eq_halt_of_cls {i : Instr} (hcls : i.desc.cls = .halt) : i = .halt := by
  obtain ⟨op, _, _, hi, hd⟩ := exists_base_of_cls (i := i) (by rw [hcls]; decide)
  rw [hd] at hcls
  obtain rfl := (baseCat_halt_iff op).mp hcls
  exact hi

/-- A Running engine's instruction ends in Halted exactly when it is HALT (10_state.md R35). -/
theorem exec_halted_iff {i : Instr} {s t : State} (hrun : s.st = .running) (hexec : exec i s = .next t) :
    t.st = .halted ↔ i = .halt := by
  constructor
  · intro hhalted
    apply Instr.eq_halt_of_cls
    obtain ⟨taken, u, heffect, rfl⟩ | ⟨e, rfl⟩ := exec_cases hexec
    · by_contra hcls
      rw [commit_st_of_running taken hrun heffect, if_neg hcls] at hhalted
      cases hhalted
    · cases hhalted
  · rintro rfl
    cases hexec
    rfl

/-- What is fetched is HALT exactly when the byte at pc is 0x76 (30_encoding.md R98). -/
theorem fetch_halt_iff {s : State} {i : Instr} {n : Nat} (hfetch : fetch s = .ok (i, n)) :
    i = .halt ↔ s.mem8 s.pc.toNat = 0x76 := by
  constructor
  · rintro rfl
    obtain ⟨_, ⟨hbyte, _⟩, _⟩ := (decode_eq_ok_iff s.extAbsent s.source s.pc.toNat n _).mp hfetch
    exact Option.some.inj hbyte
  · intro hbyte
    have hhalt : fetch s = .ok (.halt, 1) := fetch_of_encode (i := .halt) rfl ⟨congrArg some hbyte, trivial⟩
    cases hfetch.symm.trans hhalt
    rfl

/-- Settles O12: by the cases of a step from Running; an error fails, and needs another byte at pc or none. -/
theorem haltedOnlyThroughHalt : Obligations.HaltedOnlyThroughHalt := by
  intro s t hrun hstep
  obtain ⟨hst, _⟩ | ⟨_, hpc, rfl⟩ | ⟨_, _, e, hfetch, rfl⟩ | ⟨_, hpc, i, n, hfetch, hexec⟩ := step_cases hstep
  · exact absurd hrun hst
  · exact iff_of_false (by simp) fun h => by omega
  · obtain ⟨hprefix, _, _⟩ := (fetch_eq_error_iff s e).mp hfetch
    simp [hprefix]
  · rw [exec_halted_iff hrun hexec, fetch_halt_iff hfetch, and_iff_right hpc]

end Sys2Proof
end

section
/-! CYC is written and never read (70_reset_and_hazards.md R412): each operation commutes with a new value of CYC, and so each
instruction's answer and each step's. -/

namespace Sys2Proof

open Sys2Proof.Machine

/-- The state with another CYC. -/
def Machine.State.withCyc (s : State) (c : BitVec 64) : State := { s with cyc := c }

/-- An answer with the growth of CYC from `old` counted from `new` instead. -/
def rebaseCyc (old new : BitVec 64) : Out → Out
  | .next t => .next (t.withCyc (new + (t.cyc - old)))
  | .fault r => .fault r
  | .refused r => .refused r

@[simp] theorem withCyc_a (s : State) (c : BitVec 64) : (s.withCyc c).a = s.a := rfl
@[simp] theorem withCyc_sp (s : State) (c : BitVec 64) : (s.withCyc c).sp = s.sp := rfl
@[simp] theorem withCyc_hl (s : State) (c : BitVec 64) : (s.withCyc c).hl = s.hl := rfl
@[simp] theorem withCyc_next (s : State) (c : BitVec 64) (d : Descriptor) : (s.withCyc c).next d = s.next d := rfl

/-! ## The stores -/

theorem store8_withCyc (s : State) (c : BitVec 64) (x : Word) (v : Byte) :
    (s.withCyc c).store8 x v = (s.store8 x v).map (·.withCyc c) := by
  by_cases hx : x.toNat < s.memSize
  · rw [State.store8_ok s x v hx, State.store8_ok (s.withCyc c) x v hx]
    rfl
  · have hpast := Nat.not_lt.mp hx
    rw [State.store8_error s x v hpast, State.store8_error (s.withCyc c) x v hpast]
    rfl

theorem store16_withCyc (s : State) (c : BitVec 64) (x v : Word) :
    (s.withCyc c).store16 x v = (s.store16 x v).map (·.withCyc c) := by
  rw [State.store16, State.store16, store8_withCyc]
  cases s.store8 x (loByte v) with
  | ok t => exact store8_withCyc t c _ _
  | error y => rfl

theorem push16_withCyc (s : State) (c : BitVec 64) (v : Word) :
    (s.withCyc c).push16 v = (s.push16 v).map (·.withCyc c) := by
  rw [State.push16, State.push16, withCyc_sp, store8_withCyc]
  cases s.store8 (s.sp - 1) (hiByte v) with
  | error y => rfl
  | ok t =>
    simp only [Except.map, store8_withCyc]
    cases t.store8 (s.sp - 2) (loByte v) <;> rfl

theorem call_withCyc (s : State) (c : BitVec 64) (d : Descriptor) (w : Word) :
    call (s.withCyc c) d w = (call s d w).map (·.withCyc c) := by
  rw [call, call, withCyc_next, push16_withCyc]
  cases s.push16 (s.next d) <;> rfl

theorem storeStep_withCyc (s : State) (c : BitVec 64) (w : Word) :
    storeStep (s.withCyc c) w = (storeStep s w).map (·.withCyc c) := by
  rw [storeStep, storeStep, withCyc_hl, withCyc_a, store8_withCyc]
  cases s.store8 s.hl s.a <;> rfl

/-! ## The ends of an instruction -/

theorem commit_withCyc (d : Descriptor) (taken : Bool) (s t : State) (c : BitVec 64) :
    commit d taken (s.withCyc c) (t.withCyc c) =
      (commit d taken s t).withCyc (c + ((commit d taken s t).cyc - s.cyc)) := by
  rw [commit_cyc, add_sub_cancel_left]
  rfl

theorem retire_withCyc {d : Descriptor} {s t t' : State} {c : BitVec 64} (ht : t' = t.withCyc c) :
    retire d (s.withCyc c) t' = rebaseCyc s.cyc c (retire d s t) := by
  rw [ht, retire_eq, commit_withCyc]
  rfl

theorem fail_withCyc (s : State) (c : BitVec 64) (e : Err) :
    (.next ((s.withCyc c).fail e) : Out) = rebaseCyc s.cyc c (.next (s.fail e)) := by
  rw [rebaseCyc, State.fail_cyc, sub_self, add_zero]
  rfl

theorem retireStore_withCyc {d : Descriptor} {s : State} {r r' : Except Word State} {c : BitVec 64}
    (hr : r' = r.map (·.withCyc c)) : retireStore d (s.withCyc c) r' = rebaseCyc s.cyc c (retireStore d s r) := by
  subst hr
  cases r with
  | ok t => exact retire_withCyc rfl
  | error x => exact fail_withCyc s c _

theorem retireCond_withCyc {d : Descriptor} {s : State} {taken : Bool} {r r' : Except Word State} {c : BitVec 64}
    (hr : r' = r.map (·.withCyc c)) : retireCond d (s.withCyc c) taken r' = rebaseCyc s.cyc c (retireCond d s taken r) := by
  cases taken with
  | true => exact retireStore_withCyc hr
  | false =>
    rw [retireCond_false, retireCond_false, rebaseCyc, ← commit_withCyc]
    rfl

/-! ## The instructions and the step -/

/-- An instruction's answer moves with CYC, whatever the instruction (70_reset_and_hazards.md R412). -/
theorem exec_withCyc (i : Instr) (s : State) (c : BitVec 64) : exec i (s.withCyc c) = rebaseCyc s.cyc c (exec i s) := by
  cases i.shape
  case alu a x =>
    cases x with
    | reg r => cases a <;> cases r <;> exact retire_withCyc rfl
    | atHl => cases a <;> exact retire_withCyc rfl
    | imm n => cases a <;> exact retire_withCyc rfl
  case incReg r => cases r <;> exact retire_withCyc rfl
  case decReg r => cases r <;> exact retire_withCyc rfl
  case addHl p => cases p <;> exact retire_withCyc rfl
  case incPair p => cases p <;> exact retire_withCyc rfl
  case decPair p => cases p <;> exact retire_withCyc rfl
  case ldReg r r' => cases r <;> cases r' <;> exact retire_withCyc rfl
  case ldImm r n => cases r <;> exact retire_withCyc rfl
  case ldFromHl r => cases r <;> exact retire_withCyc rfl
  case ldToHl r => cases r <;> exact retireStore_withCyc (store8_withCyc s c _ _)
  case ldPair p w => cases p <;> exact retire_withCyc rfl
  case push q => cases q <;> exact retireStore_withCyc (push16_withCyc s c _)
  case pop q => cases q <;> exact retire_withCyc rfl
  case jpCond cc w => cases cc <;> exact retireCond_withCyc rfl
  case jrCond cc n => cases cc <;> exact retireCond_withCyc rfl
  case retCond cc => cases cc <;> exact retireCond_withCyc rfl
  case callCond cc w => cases cc <;> exact retireCond_withCyc (call_withCyc s c _ w)
  case rst t => fin_cases t <;> exact retireStore_withCyc (call_withCyc s c _ _)
  case rot o r => cases o <;> cases r <;> exact retire_withCyc rfl
  case rotHl o => cases o <;> exact retireStore_withCyc (store8_withCyc (rotFlags s _ (s.read8 s.hl)) c s.hl _)
  case bit b r => cases r <;> fin_cases b <;> exact retire_withCyc rfl
  case res b r => cases r <;> fin_cases b <;> exact retire_withCyc rfl
  case set b r => cases r <;> fin_cases b <;> exact retire_withCyc rfl
  case bitHl b => fin_cases b <;> exact retire_withCyc rfl
  case resHl b => fin_cases b <;> exact retireStore_withCyc (store8_withCyc s c _ _)
  case setHl b => fin_cases b <;> exact retireStore_withCyc (store8_withCyc s c _ _)
  case illegal h => cases h <;> exact fail_withCyc s c _
  case callA16 w => exact retireStore_withCyc (call_withCyc s c _ w)
  case ldAtA16Sp w => exact retireStore_withCyc (store16_withCyc s c w s.sp)
  case prefixCb => rfl
  case ldAtHlIncA => exact retireStore_withCyc (storeStep_withCyc s c _)
  case ldAtHlDecA => exact retireStore_withCyc (storeStep_withCyc s c _)
  case incAtHl => exact retireStore_withCyc (store8_withCyc (incFlags s (s.read8 s.hl)) c s.hl _)
  case decAtHl => exact retireStore_withCyc (store8_withCyc (decFlags s (s.read8 s.hl)) c s.hl _)
  case ldAtBcA => exact retireStore_withCyc (store8_withCyc s c _ _)
  case ldAtDeA => exact retireStore_withCyc (store8_withCyc s c _ _)
  case ldAtHlD8 n => exact retireStore_withCyc (store8_withCyc s c _ n)
  case ldhAtA8A n => exact retireStore_withCyc (store8_withCyc s c _ _)
  case ldAtCA => exact retireStore_withCyc (store8_withCyc s c _ _)
  case ldAtA16A w => exact retireStore_withCyc (store8_withCyc s c w _)
  all_goals exact retire_withCyc rfl

/-- A step's answer moves with CYC: neither the test of pc nor the fetch looks at it (70_reset_and_hazards.md R412). -/
theorem step_withCyc (s : State) (c : BitVec 64) : step (s.withCyc c) = rebaseCyc s.cyc c (step s) := by
  have hstays (hst : s.st = .halted ∨ s.st = .failed) : step (s.withCyc c) = rebaseCyc s.cyc c (step s) := by
    rw [terminalStatesAreAbsorbing (s.withCyc c) hst, terminalStatesAreAbsorbing s hst, rebaseCyc, sub_self, add_zero]
  cases hst : s.st with
  | halted => exact hstays (.inl hst)
  | failed => exact hstays (.inr hst)
  | running =>
    by_cases hpc : s.pc.toNat < s.memSize
    · cases hfetch : fetch s with
      | error e =>
        rw [step_of_fetch_error hst hpc hfetch, ← fail_withCyc]
        exact step_of_fetch_error (s := s.withCyc c) hst hpc hfetch
      | ok x =>
        rw [step_of_fetch hst hpc hfetch, ← exec_withCyc]
        exact step_of_fetch (s := s.withCyc c) hst hpc hfetch
    · have hpast := Nat.not_lt.mp hpc
      rw [overrunFailsTheRun (s.withCyc c) hst hpast, overrunFailsTheRun s hst hpast]
      exact fail_withCyc s c (.memoryOverrun s.pc)

/-- Settles O18: the growth of CYC is counted from the new value, and nothing else moves. -/
theorem nothingReadsCyc : Obligations.NothingReadsCyc := by
  intro s t c hstep
  have hrebased := step_withCyc s c
  rw [hstep] at hrebased
  exact hrebased

end Sys2Proof
end

section
/-! `run()` is iterated `step()` (60_exceptions.md R365, R367), and the state after reset (10_state.md R41, 70_reset_and_hazards.md
R400). For `run` both sides satisfy one recursion: on a terminal state they stop, on a Running one they go on from its successor. -/

namespace Sys2Proof

open Sys2Proof.Machine

/-! ## run -/

/-- `u` is terminal, and `r` is what `run()` returns there (60_exceptions.md R367). -/
def EndsWith (u : State) (r : RunResult) : Prop :=
  (u.st = .halted ∧ r = .success) ∨ (u.st = .failed ∧ r = .error u.err)

/-- The first `n` steps from `s` start in Running and lead to `u`, where `run()` returns `r` (60_exceptions.md R365, R367). -/
def StopsAfter (n : Nat) (s u : State) (r : RunResult) : Prop :=
  Steps n s u ∧ (∀ m v, m < n → Steps m s v → v.st = .running) ∧ EndsWith u r

theorem EndsWith.not_running {u : State} {r : RunResult} (h : EndsWith u r) : u.st ≠ .running := by
  obtain ⟨hst, _⟩ | ⟨hst, _⟩ := h <;> simp [hst]

theorem steps_zero_iff (s u : State) : Steps 0 s u ↔ u = s := by
  constructor
  · rintro ⟨⟩
    rfl
  · rintro rfl
    exact .refl _

theorem steps_succ_iff {s t : State} (hstep : step s = .next t) (n : Nat) (u : State) : Steps (n + 1) s u ↔ Steps n t u := by
  constructor
  · intro h
    cases h with
    | cons hstep' hrest =>
      cases hstep.symm.trans hstep'
      exact hrest
  · exact .cons hstep

theorem stopsAfter_zero_iff (s u : State) (r : RunResult) : StopsAfter 0 s u r ↔ u = s ∧ EndsWith s r := by
  simp only [StopsAfter, steps_zero_iff, Nat.not_lt_zero, false_implies, implies_true, true_and]
  exact and_congr_right fun h => h ▸ Iff.rfl

/-- More than no steps are a first one, from Running, and the rest. -/
theorem stopsAfter_succ_iff {s t : State} (hstep : step s = .next t) (n : Nat) (u : State) (r : RunResult) :
    StopsAfter (n + 1) s u r ↔ s.st = .running ∧ StopsAfter n t u r := by
  have hrunning : (∀ m v, m < n + 1 → Steps m s v → v.st = .running) ↔
      s.st = .running ∧ ∀ m v, m < n → Steps m t v → v.st = .running := by
    constructor
    · intro h
      exact ⟨h 0 s (Nat.succ_pos n) (.refl s), fun m v hm hv => h (m + 1) v (Nat.succ_lt_succ hm) (.cons hstep hv)⟩
    · rintro ⟨hs, h⟩ (_ | m) v hm hv
      · rwa [(steps_zero_iff s v).mp hv]
      · exact h m v (Nat.lt_of_succ_lt_succ hm) ((steps_succ_iff hstep m v).mp hv)
  rw [StopsAfter, steps_succ_iff hstep, hrunning, StopsAfter]
  tauto

/-- `run()` of a terminal state returns there, whatever the fuel (60_exceptions.md R367). -/
theorem run_eq_some_iff_of_terminal {s : State} (hst : s.st ≠ .running) (k : Nat) (u : State) (r : RunResult) :
    run k s = some (r, u) ↔ u = s ∧ EndsWith s r := by
  unfold run EndsWith
  cases h : s.st with
  | running => exact absurd h hst
  | halted => simp [eq_comm, and_comm]
  | failed => simp [eq_comm, and_comm]

theorem run_zero_of_running {s : State} (hst : s.st = .running) : run 0 s = none := by
  simp [run, hst]

/-- `run()` of a Running state goes on from its successor (60_exceptions.md R365). -/
theorem run_succ_of_running {s t : State} (hst : s.st = .running) (hstep : step s = .next t) (k : Nat) :
    run (k + 1) s = run k t := by
  rw [run, hst]
  simp [hstep]

/-- A terminal state stops after no steps, and only after none. -/
theorem stopsAfter_iff_of_terminal {s : State} (hst : s.st ≠ .running) (n : Nat) (u : State) (r : RunResult) :
    StopsAfter n s u r ↔ n = 0 ∧ u = s ∧ EndsWith s r := by
  cases n with
  | zero => simp [stopsAfter_zero_iff]
  | succ n =>
    obtain ⟨t, hstep⟩ := exists_step_eq_next s
    simp [stopsAfter_succ_iff hstep, hst]

/-- `run()` answers where the steps within the fuel stop (60_exceptions.md R365). -/
theorem run_eq_some_iff (k : Nat) (s u : State) (r : RunResult) :
    run k s = some (r, u) ↔ ∃ n, n ≤ k ∧ StopsAfter n s u r := by
  induction k generalizing s with
  | zero =>
    by_cases hst : s.st = .running
    · have hends : ¬EndsWith s r := fun h => h.not_running hst
      simp [run_zero_of_running hst, stopsAfter_zero_iff, hends]
    · simp [run_eq_some_iff_of_terminal hst, stopsAfter_zero_iff]
  | succ k ih =>
    by_cases hst : s.st = .running
    · obtain ⟨t, hstep⟩ := exists_step_eq_next s
      have hends : ¬EndsWith s r := fun h => h.not_running hst
      rw [run_succ_of_running hst hstep, ih]
      constructor
      · rintro ⟨n, hn, hstops⟩
        exact ⟨n + 1, Nat.succ_le_succ hn, (stopsAfter_succ_iff hstep n u r).mpr ⟨hst, hstops⟩⟩
      · rintro ⟨_ | n, hn, hstops⟩
        · obtain ⟨_, hs⟩ := (stopsAfter_zero_iff s u r).mp hstops
          exact absurd hs hends
        · obtain ⟨_, hrest⟩ := (stopsAfter_succ_iff hstep n u r).mp hstops
          exact ⟨n, Nat.le_of_succ_le_succ hn, hrest⟩
    · simp [run_eq_some_iff_of_terminal hst, stopsAfter_iff_of_terminal hst]

/-- Settles O19: by induction on the fuel, both sides going on from the successor of a Running state. -/
theorem runIsIteratedStep : Obligations.RunIsIteratedStep := run_eq_some_iff

/-! ## Reset -/

/-- Settles O1: the registers are zero by definition; below N the image's byte, and an image of length N has none past it. -/
theorem resetLeavesTheStatedValues : Obligations.ResetLeavesTheStatedValues := by
  intro n absent image hlen s
  refine ⟨fun r => by cases r <;> rfl, rfl, rfl, rfl, rfl, rfl, rfl, fun i => ?_⟩
  by_cases hi : i < n
  · exact (if_pos hi).trans ((Memory.read_ofImage n 0 image i hi).trans (if_pos (Nat.zero_le i)))
  · rw [State.mem8_of_le s i (Nat.not_lt.mp hi)]
    simp [hlen, Nat.not_lt.mp hi]

/-- Settles O2: memory by `State.memOk_resetWith`, F zero, Running without an error. -/
theorem invariantHoldsAtReset : Obligations.InvariantHoldsAtReset := by
  have hreset (n : Nat) (absent image : List Byte) (hn : n ≤ 65536) : (State.resetWith n absent image).Inv :=
    ⟨State.memOk_resetWith n absent image hn, BitVec.zero_and, by simp [State.resetWith]⟩
  exact ⟨hreset, hreset _ _ _ (Nat.le_refl _)⟩

end Sys2Proof
end

section
/-! Registers, pairs, flags and memory as numbers (10_state.md R21 to R28, 20_memory.md R61 to R65), and the words that the statements
are written in. -/

namespace Sys2Proof

open Sys2Proof.Machine

/-! ## Bytes and words -/

/-- The high nibble of a byte in its place (10_state.md R28). -/
theorem and_f0_eq_ofNat (v : Byte) : v &&& 0xF0 = BitVec.ofNat 8 (v.toNat / 16 * 16) := by
  have hmask : v >>> 4 <<< 4 = v &&& (0xF0 : Byte) := BitVec.shiftLeft_ushiftRight
  apply BitVec.eq_of_toNat_eq
  rw [← hmask, BitVec.toNat_shiftLeft, BitVec.toNat_ushiftRight, Nat.shiftRight_eq_div_pow, Nat.shiftLeft_eq, BitVec.toNat_ofNat]

/-- A word masked to its high twelve bits, by its bytes (10_state.md R28). -/
theorem joinBytes_and_f0 (w : Word) : joinBytes (hiByte w) (loByte w &&& 0xF0) = w &&& 0xFFF0 := by
  have hmask : joinBytes (hiByte w) (loByte w) &&& joinBytes 0xFF 0xF0 = joinBytes (hiByte w &&& 0xFF) (loByte w &&& 0xF0) :=
    BitVec.and_append
  rw [joinBytes_hi_lo, show (0xFF : Byte) = BitVec.allOnes 8 from rfl, BitVec.and_allOnes] at hmask
  exact hmask.symm

/-- The low byte of a word, made from its remainder (00_scope.md R8). -/
theorem loByte_eq_ofNat_mod (w : Word) : loByte w = BitVec.ofNat 8 (w.toNat % 256) := by
  rw [← loByte_toNat, BitVec.ofNat_toNat, BitVec.setWidth_eq]

/-- A pair, made from the numbers of its bytes (10_state.md R22). -/
theorem joinBytes_eq_ofNat (hi lo : Byte) : joinBytes hi lo = BitVec.ofNat 16 (lo.toNat + 256 * hi.toNat) := by
  rw [Nat.add_comm, ← joinBytes_toNat, BitVec.ofNat_toNat, BitVec.setWidth_eq]

/-- The next address wraps at 65536 (20_memory.md R64). -/
theorem toNat_add_one (x : Word) : (x + 1).toNat = (x.toNat + 1) % 65536 := BitVec.toNat_add x 1

/-- A bit of a byte by its number: it is set exactly when the part below the next bit reaches it (00_scope.md R8). -/
theorem getLsbD_eq_true_iff (v : Byte) (i : Nat) : v.getLsbD i = true ↔ 2 ^ i ≤ v.toNat % (2 * 2 ^ i) := by
  have hpos : 0 < 2 ^ i := Nat.two_pow_pos i
  have hbit : v.toNat % (2 * 2 ^ i) / 2 ^ i = (v.getLsbD i).toNat := by
    rw [toNat_getLsbD, Nat.mul_comm, Nat.mod_mul_right_div_self]
  have hreach : 0 < v.toNat % (2 * 2 ^ i) / 2 ^ i ↔ 2 ^ i ≤ v.toNat % (2 * 2 ^ i) := Nat.div_pos_iff.trans (and_iff_right hpos)
  rw [← hreach, hbit]
  cases v.getLsbD i <;> decide

/-- A packed flag byte as a number (10_state.md R27). -/
theorem toNat_packFlags (z n h c : Bool) :
    (packFlags z n h c).toNat = 128 * z.toNat + 64 * n.toNat + 32 * h.toNat + 16 * c.toNat := by
  cases z <;> cases n <;> cases h <;> cases c <;> rfl

/-- The write of AF keeps the high nibble of its low byte (10_state.md R28). -/
theorem setAf_eq (s : State) (w : Word) :
    s.setAf w = { s with a := BitVec.ofNat 8 (w.toNat / 256), f := BitVec.ofNat 8 (w.toNat % 256 / 16 * 16) } := by
  rw [State.setAf, State.setF, and_f0_eq_ofNat, hiByte_eq_ofNat, loByte_toNat]

/-- Settles O29: each accessor is the field of its name; pairs and flags by their numbers. -/
theorem registerViewsAndFlags : Obligations.RegisterViewsAndFlags := by
  intro s r r' v w z n h c hi lo
  have hhi : hiByte w = hi := hiByte_eq_ofNat w
  have hlo : loByte w = lo := loByte_eq_ofNat_mod w
  exact ⟨rfl, rfl, rfl, rfl, rfl, rfl, rfl, rfl, rfl, rfl, rfl, rfl, rfl, rfl, s.reg_setReg r r' v,
    joinBytes_toNat _ _, joinBytes_toNat _ _, joinBytes_toNat _ _, joinBytes_toNat _ _,
    by rw [State.setBc, hhi, hlo], by rw [State.setDe, hhi, hlo], by rw [State.setHl, hhi, hlo], setAf_eq s w,
    s.bc_setBc w, s.de_setDe w, s.hl_setHl w, joinBytes_and_f0 w,
    rfl, rfl, rfl, rfl, rfl, rfl, rfl, rfl, rfl, rfl, rfl, rfl, rfl, rfl, rfl, rfl,
    by rw [State.zf, getLsbD_seven, decide_eq_true_iff], getLsbD_eq_true_iff s.f 6, getLsbD_eq_true_iff s.f 5,
    getLsbD_eq_true_iff s.f 4, toNat_packFlags z n h c, s.setFlags_eq z n h c⟩

/-! ## Memory -/

/-- A word read from memory: low byte first, the second address modulo 65536 (20_memory.md R64). -/
theorem read16_eq (s : State) (x : Word) :
    s.read16 x = BitVec.ofNat 16 ((s.mem8 x.toNat).toNat + 256 * (s.mem8 ((x.toNat + 1) % 65536)).toNat) := by
  rw [State.read16, joinBytes_eq_ofNat, State.read8, State.read8, toNat_add_one]

/-- `Mem8` after two writes below N: the second write prevails (20_memory.md R61, R63). -/
theorem mem8_write_write {s t : State} {x y : Nat} {v u : Byte} (h : s.MemOk) (hx : x < s.memSize) (hy : y < s.memSize)
    (hm : t.mem = (s.mem.write x v).write y u) (hn : t.memSize = s.memSize) (i : Nat) :
    t.mem8 i = if i = y then u else if i = x then v else s.mem8 i := by
  have hfirst : State.MemOk { s with mem := s.mem.write x v } := h.write hx rfl rfl
  rw [State.mem8_write { s with mem := s.mem.write x v } t y u hfirst.canonical hy hm hn,
    State.mem8_write s { s with mem := s.mem.write x v } x v h.canonical hx rfl rfl]

/-- Two writes below N keep `MemOk` (20_memory.md R63). -/
theorem memOk_write_write {s t : State} {x y : Nat} {v u : Byte} (h : s.MemOk) (hx : x < s.memSize) (hy : y < s.memSize)
    (hm : t.mem = (s.mem.write x v).write y u) (hn : t.memSize = s.memSize) : t.MemOk := by
  have hfirst : State.MemOk { s with mem := s.mem.write x v } := h.write hx rfl rfl
  exact hfirst.write (x := y) (v := u) hy hm hn

/-- Two neighbouring addresses differ. -/
theorem toNat_ne_toNat_add_one (x : Word) : x.toNat ≠ (x + 1).toNat := by
  rw [toNat_add_one]
  omega

/-- Settles O30: the store's two outcomes, and the bytes after one write and after two. -/
theorem memoryReadAndWrite : Obligations.MemoryReadAndWrite := by
  intro s x v n hok
  refine ⟨s.mem8_of_le, s.store8_error x n, fun hx => ?_, read16_eq s x, s.store16_error_low x v, s.store16_error_high x v,
    fun hx hy => ?_⟩
  · let t : State := { s with mem := s.mem.write x.toNat n }
    exact ⟨t, s.store8_ok x n hx, rfl, hok.write hx rfl rfl, s.mem8_write t x.toNat n hok.canonical hx rfl rfl⟩
  · let t : State := { s with mem := (s.mem.write x.toNat (loByte v)).write (x + 1).toNat (hiByte v) }
    have hmem8 : ∀ i, t.mem8 i = if i = (x + 1).toNat then hiByte v else if i = x.toNat then loByte v else s.mem8 i :=
      mem8_write_write hok hx hy rfl rfl
    have hlo : t.mem8 x.toNat = loByte v := by rw [hmem8, if_neg (toNat_ne_toNat_add_one x), if_pos rfl]
    have hhi : t.mem8 (x + 1).toNat = hiByte v := by rw [hmem8, if_pos rfl]
    refine ⟨t, s.store16_ok x v hx hy, ?_, rfl, memOk_write_write hok hx hy rfl rfl, ?_, ?_, fun i hi hi' => ?_⟩
    · rw [State.read16, State.read8, State.read8, hlo, hhi, joinBytes_hi_lo]
    · rw [hlo, loByte_toNat]
    · rw [hhi, hiByte_toNat]
    · rw [hmem8, if_neg hi', if_neg hi]

/-! ## The words of the statements -/

/-- Settles O59: definitions, the halves of a word as numbers, and one write of memory. -/
theorem fieldNumbersAndOperands : Obligations.FieldNumbersAndOperands := by
  refine ⟨rfl, rfl, rfl, rfl, rfl, rfl, rfl, fun s r n v w y k i => ?_⟩
  refine ⟨loByte_toNat w, hiByte_toNat w, rfl, rfl, rfl, rfl, ?_, ?_, rfl, rfl, rfl, rfl, rfl, rfl, fun hok hk => ?_⟩
  · rw [Src.bytes, Nat.add_right_comm]
  · rw [Src.bytes, Nat.add_right_comm]
  · exact ⟨hok.write hk rfl rfl, s.mem8_write { s with mem := s.mem.write k v } k v hok.canonical hk rfl rfl i⟩

end Sys2Proof
end

section
/-! The instructions that store a byte or a word outside the stack (40_arith_logic.md R176, R178, 41_load.md R224 to R242,
42_bitops_ext.md R272 to R292), and the register forms beside them. First the ends of a store that succeeds; then each operation's state; then the
obligations, each by `retireStore_of_normal` applied to its operation. A store out of range fails by `exec_of_firstBad`. -/

namespace Sys2Proof

open Sys2Proof.Machine

/-! ## The operations -/

/-- A store that succeeds, of an instruction that cannot halt or jump: its effect, and pc and CYC advanced (60_exceptions.md R362). -/
theorem retireStore_of_normal {d : Descriptor} {s t : State} {r : Except Word State} (hcls : d.cls = .normal) (hct : d.ct = false)
    (hr : r = .ok t) : retireStore d s r =
      .next { t with pc := s.pc + BitVec.ofNat 16 d.len, cyc := s.cyc + BitVec.ofNat 64 d.cycles } := by
  subst hr
  exact retire_of_normal hcls hct rfl

/-- A byte store to the address with a given number below N (20_memory.md R63). -/
theorem store8_of_toNat {s : State} {x : Word} {i : Nat} (v : Byte) (hx : x.toNat = i) (hi : i < s.memSize) :
    s.store8 x v = .ok { s with mem := s.mem.write i v } := by
  subst hx
  exact s.store8_ok x v hi

/-- A store of A that steps HL: the byte at the old HL, and the halves of the next HL made from its number (41_load.md R236, R238). -/
theorem storeStep_ok {s : State} {next : Word} {n : Nat} (hnext : next = BitVec.ofNat 16 n) (hhl : s.hl.toNat < s.memSize) :
    storeStep s next = .ok { s with
      mem := s.mem.write s.hl.toNat s.a, h := BitVec.ofNat 8 (n % 65536 / 256), l := BitVec.ofNat 8 (n % 65536) } := by
  have hset (t : State) : t.setHl next = { t with h := BitVec.ofNat 8 (n % 65536 / 256), l := BitVec.ofNat 8 (n % 65536) } := by
    rw [State.setHl, hiByte_eq_ofNat, loByte_eq_ofNat, hnext, BitVec.toNat_ofNat]
  rw [storeStep, s.store8_ok s.hl s.a hhl]
  exact congrArg Except.ok (hset _)

/-- `INC (HL)` below N (40_arith_logic.md R176). -/
theorem incMem_ok {s : State} {v : Nat} (hhl : s.hl.toNat < s.memSize) (hv : (s.mem8 s.hl.toNat).toNat = v) :
    incMem s = .ok { s with
      mem := s.mem.write s.hl.toNat (BitVec.ofNat 8 (v + 1))
      f := packFlags (decide (v = 255)) false (decide (v % 16 = 15)) s.cf } := by
  subst hv
  rw [incMem, incFlags_eq, State.read8, BitVec.ofNat_add, BitVec.ofNat_toNat, BitVec.setWidth_eq]
  exact State.store8_ok _ s.hl _ hhl

/-- `DEC (HL)` below N (40_arith_logic.md R178). -/
theorem decMem_ok {s : State} {v : Nat} (hhl : s.hl.toNat < s.memSize) (hv : (s.mem8 s.hl.toNat).toNat = v) :
    decMem s = .ok { s with
      mem := s.mem.write s.hl.toNat (BitVec.ofNat 8 (v + 255))
      f := packFlags (decide (v = 1)) true (decide (v % 16 = 0)) s.cf } := by
  subst hv
  rw [decMem, decFlags_eq, State.read8, BitVec.ofNat_add, BitVec.ofNat_toNat, BitVec.setWidth_eq, BitVec.sub_eq_add_neg]
  exact State.store8_ok _ s.hl _ hhl

/-- A rotate, shift or swap of the byte at HL below N whose result is the number `res` (42_bitops_ext.md R272 to R286). -/
theorem rotMem_ok {s : State} {op : Rot} {res : Nat} {carry : Bool} (hhl : s.hl.toNat < s.memSize)
    (hresult : rotResult op (s.mem8 s.hl.toNat) s.cf = BitVec.ofNat 8 res) (hres : res < 256)
    (hcarry : rotCarry op (s.mem8 s.hl.toNat) = carry) :
    rotMem s op = .ok { s with
      mem := s.mem.write s.hl.toNat (BitVec.ofNat 8 res)
      f := packFlags (decide (res = 0)) false false carry } := by
  rw [rotMem, State.read8, rotFlags_eq hresult hres hcarry, hresult]
  exact State.store8_ok _ s.hl _ hhl

/-! ## The instructions -/

/-- What a rotate, shift or swap of the byte at HL executes when its store succeeds (42_bitops_ext.md R270). -/
theorem exec_rotHl {o : Rot} {s t : State} (ht : rotMem s o = .ok t) :
    exec (.rotHl o) s = .next { t with pc := s.pc + 2, cyc := s.cyc + 16 } := by
  cases o <;> exact retireStore_of_normal rfl rfl ht

/-- What `RES b r` executes (42_bitops_ext.md R289). -/
theorem exec_res (b : Fin 8) (r : Reg8) (s : State) :
    exec (.res b r) s = .next { s.setReg r (clearBit (s.reg r) b) with pc := s.pc + 2, cyc := s.cyc + 8 } := by
  cases r <;> fin_cases b <;> exact retire_of_normal rfl rfl rfl

/-- What `SET b r` executes (42_bitops_ext.md R291). -/
theorem exec_set (b : Fin 8) (r : Reg8) (s : State) :
    exec (.set b r) s = .next { s.setReg r (raiseBit (s.reg r) b) with pc := s.pc + 2, cyc := s.cyc + 8 } := by
  cases r <;> fin_cases b <;> exact retire_of_normal rfl rfl rfl

/-- What `RES b (HL)` executes below N (42_bitops_ext.md R290). -/
theorem exec_resHl (b : Fin 8) {s : State} (hhl : s.hl.toNat < s.memSize) : exec (.resHl b) s = .next { s with
    mem := s.mem.write s.hl.toNat (clearBit (s.mem8 s.hl.toNat) b), pc := s.pc + 2, cyc := s.cyc + 16 } := by
  fin_cases b <;> exact retireStore_of_normal rfl rfl (s.store8_ok s.hl _ hhl)

/-- What `SET b (HL)` executes below N (42_bitops_ext.md R292). -/
theorem exec_setHl (b : Fin 8) {s : State} (hhl : s.hl.toNat < s.memSize) : exec (.setHl b) s = .next { s with
    mem := s.mem.write s.hl.toNat (raiseBit (s.mem8 s.hl.toNat) b), pc := s.pc + 2, cyc := s.cyc + 16 } := by
  fin_cases b <;> exact retireStore_of_normal rfl rfl (s.store8_ok s.hl _ hhl)

/-- The mask of a bit has that bit alone (42_bitops_ext.md R289). -/
theorem getLsbD_one_shiftLeft (b k : Nat) (hk : k < 8) : ((1 : Byte) <<< b).getLsbD k = decide (k = b) := by
  have hmask : ((1 : Byte) <<< b).getLsbD k = (decide (b < 8) && decide (b = k)) :=
    BitVec.getLsbD_twoPow b k
  rw [hmask, ← Bool.decide_and, decide_eq_decide]
  omega

/-- Clearing a bit clears that bit alone (42_bitops_ext.md R289). -/
theorem getLsbD_clearBit (v : Byte) (b k : Nat) (hk : k < 8) : (clearBit v b).getLsbD k = (decide (k ≠ b) && v.getLsbD k) := by
  rw [clearBit, BitVec.getLsbD_and, BitVec.getLsbD_not, getLsbD_one_shiftLeft b k hk]
  simp [hk, Bool.and_comm]

/-- Raising a bit sets that bit alone (42_bitops_ext.md R291). -/
theorem getLsbD_raiseBit (v : Byte) (b k : Nat) (hk : k < 8) : (raiseBit v b).getLsbD k = (decide (k = b) || v.getLsbD k) := by
  rw [raiseBit, BitVec.getLsbD_or, getLsbD_one_shiftLeft b k hk, Bool.or_comm]

/-! ## The obligations -/

/-- Settles O37: below N the store succeeds; at or past N HL is the first address out of range. -/
theorem incrementDecrementMemory : Obligations.IncrementDecrementMemory := by
  intro s v
  refine ⟨rfl, rfl, fun hhl => ⟨?_, ?_⟩, fun hpast => ⟨?_, ?_⟩⟩
  · exact retireStore_of_normal rfl rfl (incMem_ok hhl rfl)
  · exact retireStore_of_normal rfl rfl (decMem_ok hhl rfl)
  · exact exec_of_firstBad (i := .incAtHl) ((firstBad_one s s.hl).trans (if_pos hpast))
  · exact exec_of_firstBad (i := .decAtHl) ((firstBad_one s s.hl).trans (if_pos hpast))

/-- Settles O45: each store succeeds at its address; the high page and the next HL are taken as numbers. -/
theorem storeByteCompletes : Obligations.StoreByteCompletes := by
  intro r n w s hlUp hlDown
  refine ⟨fun hhl => ⟨?_, ?_, ?_, ?_⟩, fun hbc => ?_, fun hde => ?_, fun hw => ?_, fun hn => ?_, fun hc => ?_⟩
  · cases r <;> exact retireStore_of_normal rfl rfl (s.store8_ok s.hl _ hhl)
  · exact retireStore_of_normal rfl rfl (s.store8_ok s.hl n hhl)
  · exact retireStore_of_normal rfl rfl (storeStep_ok (add_one_eq_ofNat s.hl) hhl)
  · exact retireStore_of_normal rfl rfl (storeStep_ok (sub_one_eq_ofNat s.hl) hhl)
  · exact retireStore_of_normal rfl rfl (s.store8_ok s.bc s.a hbc)
  · exact retireStore_of_normal rfl rfl (s.store8_ok s.de s.a hde)
  · exact retireStore_of_normal rfl rfl (s.store8_ok w s.a hw)
  · exact retireStore_of_normal rfl rfl (store8_of_toNat s.a (toNat_highPage n) hn)
  · exact retireStore_of_normal rfl rfl (store8_of_toNat s.a (toNat_highPage s.c) hc)

/-- Settles O47: two register writes, and the two bytes of SP at an address and the next. -/
theorem loadPairAndStackPointer : Obligations.LoadPairAndStackPointer := by
  intro p w s
  refine ⟨by cases p <;> rfl, rfl, rfl, ?_, retire_of_normal rfl rfl rfl, fun hlow hhigh => ?_⟩
  · cases p <;> exact retire_of_normal rfl rfl rfl
  · rw [← toNat_add_one] at hhigh ⊢
    rw [← hiByte_eq_ofNat, ← loByte_eq_ofNat]
    exact retireStore_of_normal rfl rfl (s.store16_ok w s.sp hlow hhigh)

/-- Settles O49: each result and each carry as a number, every result below 256, so that Zf tests the number itself. -/
theorem rotateMemory : Obligations.RotateMemory := by
  intro s hhl v c does
  have hv : v < 256 := (s.mem8 s.hl.toNat).isLt
  have hc : c < 2 := s.cf.toNat_lt
  have hdoes (o : Rot) {res : Nat} {carry : Bool} (hresult : rotResult o (s.mem8 s.hl.toNat) s.cf = BitVec.ofNat 8 res)
      (hres : res < 256) (hcarry : rotCarry o (s.mem8 s.hl.toNat) = carry) : does o res carry :=
    ⟨by cases o <;> rfl, exec_rotHl (rotMem_ok hhl hresult hres hcarry)⟩
  refine ⟨?_, ?_, ?_, ?_, ?_, ?_, ?_, ?_⟩
  · exact hdoes .rlc (rotResult_rlc _ _) (by omega) (getLsbD_seven _)
  · exact hdoes .rrc (rotResult_rrc _ _) (by omega) (getLsbD_zero _)
  · exact hdoes .rl (rotResult_rl _ _) (by omega) (getLsbD_seven _)
  · exact hdoes .rr (rotResult_rr _ _) (by omega) (getLsbD_zero _)
  · exact hdoes .sla (rotResult_sla _ _) (by omega) (getLsbD_seven _)
  · exact hdoes .sra (rotResult_sra _ _) (by omega) (getLsbD_zero _)
  · exact hdoes .swap (rotResult_swap _ _) (by omega) rfl
  · exact hdoes .srl (rotResult_srl _ _) (by omega) (getLsbD_zero _)

/-- Settles O51: the byte with its bit cleared or raised, of the register and of the cell at HL. -/
theorem resetAndSetBit : Obligations.ResetAndSetBit := by
  unfold Obligations.ResetAndSetBit
  intro cleared raised b r s
  have hcleared (v : Byte) : cleared b v (clearBit v b) := getLsbD_clearBit v b
  have hraised (v : Byte) : raised b v (raiseBit v b) := getLsbD_raiseBit v b
  refine ⟨?_, ?_, ?_, ?_, ⟨_, hcleared _, exec_res b r s⟩, ⟨_, hraised _, exec_set b r s⟩,
    fun hhl => ⟨⟨_, hcleared _, exec_resHl b hhl⟩, ⟨_, hraised _, exec_setHl b hhl⟩⟩⟩
  · cases r <;> fin_cases b <;> rfl
  · cases r <;> fin_cases b <;> rfl
  · fin_cases b <;> rfl
  · fin_cases b <;> rfl

end Sys2Proof
end

section
/-! The stack and the transfers that use it (43_stack.md R300 to R303, 44_control.md R317 to R322), and the system instructions
(45_system.md R340 to R344). A push is the state `pushed`; what it pushed is what the next pop finds, so a pop after a push restores the
pair and a return after a call the address. -/

namespace Sys2Proof

open Sys2Proof.Machine

/-! ## Push and pop -/

/-- A push with both addresses below N (43_stack.md R300). -/
theorem push16_eq_pushed {s : State} (v : Word) (hhigh : (s.sp - 1).toNat < s.memSize) (hlow : (s.sp - 2).toNat < s.memSize) :
    s.push16 v = .ok (pushed s v) := s.push16_ok v hhigh hlow

/-- The state after a push, its bytes made from the word's number (43_stack.md R300). -/
theorem pushed_eq (s : State) (v : Word) : pushed s v = { s with
    mem := (s.mem.write (s.sp - 1).toNat (BitVec.ofNat 8 (v.toNat / 256))).write (s.sp - 2).toNat (BitVec.ofNat 8 v.toNat)
    sp := s.sp - 2 } := by
  rw [pushed, hiByte_eq_ofNat, loByte_eq_ofNat]

/-- The word at SP, by the numbers of its bytes (43_stack.md R300). -/
theorem top16_eq (s : State) :
    s.top16 = BitVec.ofNat 16 ((s.mem8 s.sp.toNat).toNat + 256 * (s.mem8 ((s.sp.toNat + 1) % 65536)).toNat) := read16_eq s s.sp

/-- After a push the word at SP is the one pushed (43_stack.md R300). -/
theorem top16_of_pushed {s t : State} {v : Word} (hok : s.MemOk) (hhigh : (s.sp - 1).toNat < s.memSize)
    (hlow : (s.sp - 2).toNat < s.memSize) (hmem : t.mem = (pushed s v).mem) (hsize : t.memSize = s.memSize)
    (hsp : t.sp = s.sp - 2) : t.top16 = v := by
  have hnext : s.sp - 2 + 1 = s.sp - 1 := by bv_omega
  have hne : (s.sp - 1).toNat ≠ (s.sp - 2).toNat := hnext ▸ (toNat_ne_toNat_add_one (s.sp - 2)).symm
  have hmem8 := mem8_write_write hok hhigh hlow hmem hsize
  rw [State.top16, hsp, hnext, State.read8, State.read8, hmem8, hmem8, if_neg hne, if_pos rfl, if_pos rfl, joinBytes_hi_lo]

/-- A byte whose low nibble is zero is its own high nibble (10_state.md R28). -/
theorem and_f0_of_low_zero {v : Byte} (hlow : v &&& 0x0F = 0) : v &&& 0xF0 = v := by
  have hall : v &&& (0x0F ||| 0xF0) = v := BitVec.and_allOnes
  rw [BitVec.and_or_distrib_left, hlow] at hall
  exact BitVec.zero_or.symm.trans hall

/-- Writing a pair's own value changes nothing; for AF because `F[3:0]` is zero (10_state.md R28). -/
theorem setStackPair_stackPair {s : State} (q : StackPair) (hlow : s.f &&& 0x0F = 0) : s.setStackPair q (s.stackPair q) = s := by
  cases q with
  | bc => simp [State.setStackPair, State.stackPair, State.bc, State.setBc]
  | de => simp [State.setStackPair, State.stackPair, State.de, State.setDe]
  | hl => simp [State.setStackPair, State.stackPair, State.hl, State.setHl]
  | af =>
    rw [State.setStackPair, State.stackPair, State.af, State.setAf, State.setF, hiByte_joinBytes, loByte_joinBytes,
      and_f0_of_low_zero hlow]

/-! ## The ends of a transfer that pushes -/

/-- A control transfer whose push succeeds: its effect, pc among it, and CYC advanced (44_control.md R310). -/
theorem retireStore_of_transfer {d : Descriptor} {s t : State} {r : Except Word State} (hcls : d.cls = .normal) (hct : d.ct = true)
    (hr : r = .ok t) : retireStore d s r = .next { t with cyc := s.cyc + BitVec.ofNat 64 d.cycles } := by
  subst hr
  exact retire_of_transfer hcls hct rfl

/-- A conditional transfer whose condition holds is the unconditional one (44_control.md R310). -/
theorem retireCond_of_taken {d : Descriptor} {s : State} {taken : Bool} {r : Except Word State} (htaken : taken = true) :
    retireCond d s taken r = retireStore d s r := by
  rw [htaken, retireCond_true]

/-- A conditional transfer whose condition is false advances pc and CYC, whatever its effect would be (44_control.md R310). -/
theorem retireCond_of_not_taken {d : Descriptor} {s : State} {taken : Bool} {r : Except Word State} (hcls : d.cls = .normal)
    (hct : d.ct = true) (htaken : taken = false) : retireCond d s taken r =
      .next { s with pc := s.pc + BitVec.ofNat 16 d.len, cyc := s.cyc + BitVec.ofNat 64 d.cyclesNt } := by
  simp [htaken, retireCond_false, commit, hcls, hct, costOf, State.next_eq]

/-- A call with both addresses below N (44_control.md R317). -/
theorem call_ok {s : State} {d : Descriptor} {ret : Word} (target : Word) (hret : s.next d = ret)
    (hhigh : (s.sp - 1).toNat < s.memSize) (hlow : (s.sp - 2).toNat < s.memSize) :
    call s d target = .ok { pushed s ret with pc := target } := by
  rw [call, hret, push16_eq_pushed ret hhigh hlow]

/-! ## The instructions -/

/-- What `PUSH rr` executes with both addresses below N (43_stack.md R301). -/
theorem exec_push {s : State} (q : StackPair) (hhigh : (s.sp - 1).toNat < s.memSize) (hlow : (s.sp - 2).toNat < s.memSize) :
    exec (.push q) s = .next { pushed s (s.stackPair q) with pc := s.pc + 1, cyc := s.cyc + 16 } := by
  cases q <;> exact retireStore_of_normal rfl rfl (push16_eq_pushed _ hhigh hlow)

/-- What `POP rr` executes (43_stack.md R302, R303). -/
theorem exec_pop (q : StackPair) (s : State) :
    exec (.pop q) s = .next { s.popped.setStackPair q s.top16 with pc := s.pc + 1, cyc := s.cyc + 12 } := by
  cases q <;> exact retire_of_normal rfl rfl rfl

/-- What `CALL a16` executes with both addresses below N (44_control.md R317). -/
theorem exec_callA16 {s : State} (w : Word) (hhigh : (s.sp - 1).toNat < s.memSize) (hlow : (s.sp - 2).toNat < s.memSize) :
    exec (.callA16 w) s = .next { pushed s (s.pc + 3) with pc := w, cyc := s.cyc + 24 } :=
  retireStore_of_transfer rfl rfl (call_ok w rfl hhigh hlow)

/-- What `CALL cc a16` executes when it is taken, with both addresses below N (44_control.md R318). -/
theorem exec_callCond_taken {s : State} {cc : Cond} (w : Word) (hcond : s.cond cc = true) (hhigh : (s.sp - 1).toNat < s.memSize)
    (hlow : (s.sp - 2).toNat < s.memSize) :
    exec (.callCond cc w) s = .next { pushed s (s.pc + 3) with pc := w, cyc := s.cyc + 24 } := by
  cases cc <;>
    exact (retireCond_of_taken hcond).trans (retireStore_of_transfer rfl rfl (call_ok w rfl hhigh hlow))

/-- What `CALL cc a16` executes when it is not taken (44_control.md R318). -/
theorem exec_callCond_not_taken {s : State} {cc : Cond} (w : Word) (hcond : s.cond cc = false) :
    exec (.callCond cc w) s = .next { s with pc := s.pc + 3, cyc := s.cyc + 12 } := by
  cases cc <;> exact retireCond_of_not_taken rfl rfl hcond

/-- What `RST n` executes with both addresses below N (44_control.md R322). -/
theorem exec_rst {s : State} (t : Fin 8) (hhigh : (s.sp - 1).toNat < s.memSize) (hlow : (s.sp - 2).toNat < s.memSize) :
    exec (.rst t) s = .next { pushed s (s.pc + 1) with pc := BitVec.ofNat 16 (8 * t.val), cyc := s.cyc + 16 } := by
  fin_cases t <;> exact retireStore_of_transfer rfl rfl (call_ok _ rfl hhigh hlow)

/-- What `RET` executes (44_control.md R319). -/
theorem exec_ret (s : State) : exec .ret s = .next { s with pc := s.top16, sp := s.sp + 2, cyc := s.cyc + 16 } :=
  retire_of_transfer rfl rfl rfl

/-- What `RET cc` executes (44_control.md R320). -/
theorem exec_retCond (cc : Cond) (s : State) :
    exec (.retCond cc) s = .next (if s.cond cc then { s with pc := s.top16, sp := s.sp + 2, cyc := s.cyc + 20 }
      else { s with pc := s.pc + 1, cyc := s.cyc + 8 }) := by
  cases cc <;> exact retireCond_of_transfer rfl rfl rfl

/-- What `RETI` executes: as `RET` (44_control.md R321). -/
theorem exec_reti (s : State) : exec .reti s = .next { s with pc := s.top16, sp := s.sp + 2, cyc := s.cyc + 16 } :=
  retire_of_transfer rfl rfl rfl

/-! ## The obligations -/

/-- Settles O52: the state after a push, its bytes as numbers. -/
theorem pushCompletes : Obligations.PushCompletes := by
  intro q s hhigh hlow
  refine ⟨by cases q <;> rfl, ?_⟩
  rw [exec_push q hhigh hlow, pushed_eq]

/-- Settles O53: a pair gets the two bytes at SP; the write of AF masks the low one. -/
theorem popCompletes : Obligations.PopCompletes := by
  intro s lo hi
  have htop : s.top16 = joinBytes hi lo := by rw [State.top16, State.read8, State.read8, toNat_add_one]
  refine ⟨rfl, rfl, rfl, rfl, ?_, ?_, ?_, ?_⟩
  · rw [exec_pop, htop, State.setStackPair, State.setBc, hiByte_joinBytes, loByte_joinBytes]
    rfl
  · rw [exec_pop, htop, State.setStackPair, State.setDe, hiByte_joinBytes, loByte_joinBytes]
    rfl
  · rw [exec_pop, htop, State.setStackPair, State.setHl, hiByte_joinBytes, loByte_joinBytes]
    rfl
  · rw [exec_pop, htop, State.setStackPair, State.setAf, State.setF, hiByte_joinBytes, loByte_joinBytes, and_f0_eq_ofNat]
    rfl

/-- Settles O55: each call is a push of its return address and a jump, or falls through. -/
theorem callsAndRestarts : Obligations.CallsAndRestarts := by
  intro cc w t s push
  have hpush (ret target : Word) (cost : BitVec 64) :
      (.next { pushed s ret with pc := target, cyc := s.cyc + cost } : Out) = push ret target cost := by rw [pushed_eq]
  refine ⟨rfl, by cases cc <;> rfl, by fin_cases t <;> rfl, exec_callCond_not_taken w, fun hhigh hlow => ⟨?_, fun hcond => ?_, ?_⟩⟩
  · rw [exec_callA16 w hhigh hlow, hpush]
  · rw [exec_callCond_taken w hcond hhigh hlow, hpush]
  · rw [exec_rst t hhigh hlow, hpush]

/-- Settles O56: pc from the word at SP. -/
theorem returns : Obligations.Returns := by
  intro cc s top
  have htop : s.top16 = top := top16_eq s
  refine ⟨rfl, by cases cc <;> rfl, rfl, ?_, ?_, ?_⟩
  · rw [exec_ret, htop]
  · rw [exec_retCond, htop]
  · rw [exec_reti, htop]

/-- Settles O31: the pop finds the word pushed, and writing a pair's own value changes nothing. -/
theorem pushThenPopRestores : Obligations.PushThenPopRestores := by
  intro s q hinv hhigh hlow
  let t : State := { pushed s (s.stackPair q) with pc := s.pc + 1, cyc := s.cyc + 16 }
  have htop : t.top16 = s.stackPair q := top16_of_pushed hinv.memOk hhigh hlow rfl rfl rfl
  have hpair : t.popped.stackPair q = s.stackPair q := by cases q <;> rfl
  have hrestore : t.popped.setStackPair q t.top16 = t.popped := by
    rw [htop, ← hpair]
    exact setStackPair_stackPair q hinv.flagsLow
  have hsp : t.sp + 2 = s.sp := sub_add_cancel s.sp 2
  have hpc : t.pc + 1 = s.pc + 2 := add_assoc s.pc 1 1
  have hcyc : t.cyc + 12 = s.cyc + 28 := add_assoc s.cyc 16 12
  let u : State := { s with pc := s.pc + 2, cyc := s.cyc + 28, mem := t.mem }
  refine ⟨t, u, exec_push q hhigh hlow, ?_, by cases q <;> rfl, rfl, rfl, rfl⟩
  rw [exec_pop, hrestore, hpc, hcyc, State.popped, hsp]
  rfl

/-- Settles O32: the return finds the address that the call pushed. -/
theorem callThenReturnRestores : Obligations.CallThenReturnRestores := by
  intro s w hinv hhigh hlow
  let t : State := { pushed s (s.pc + 3) with pc := w, cyc := s.cyc + 24 }
  have htop : t.top16 = s.pc + 3 := top16_of_pushed hinv.memOk hhigh hlow rfl rfl rfl
  refine ⟨t, exec_callA16 w hhigh hlow, rfl, ?_⟩
  have hsp : t.sp + 2 = s.sp := sub_add_cancel s.sp 2
  have hcyc : t.cyc + 16 = s.cyc + 40 := add_assoc s.cyc 24 16
  rw [exec_ret, htop, hsp, hcyc]
  rfl

/-- Settles O57: four instructions without an effect, and HALT, whose class sets `ST` and keeps pc. -/
theorem systemInstructions : Obligations.SystemInstructions := by
  intro s goesOn
  refine ⟨rfl, rfl, rfl, rfl, rfl, ?_, ?_, ?_, ?_, rfl⟩
  · exact retire_of_normal rfl rfl rfl
  · exact retire_of_normal rfl rfl rfl
  · exact retire_of_normal rfl rfl rfl
  · exact retire_of_normal rfl rfl rfl

end Sys2Proof
end

section
/-! Rendering of the forms with an operand (30_encoding.md R125 to R128): a form is its words up to the operand, the operand's own
rendering, and its words after it. -/

namespace Sys2Proof

/-- A rendered operand that ends the form. -/
theorem append_eq_of_last {front front' x x' : String} (hfront : front = front') (hx : x = x') : front ++ x = front' ++ x' := by
  rw [hfront, hx]

/-- A rendered operand that ends the form, its own first words joined to those before it. -/
theorem append_prefixed {front front' start word x : String} (hword : word = start ++ x) (hfront : front ++ start = front') :
    front ++ word = front' ++ x := by
  rw [hword, ← hfront, String.append_assoc]

/-- A rendered operand in parentheses that ends the form. -/
theorem append_parens {front front' word x : String} (hword : word = "(" ++ x ++ ")") (hfront : front ++ "(" = front') :
    front ++ word = front' ++ x ++ ")" := by
  simp only [hword, ← hfront, String.append_assoc]

/-- A rendered operand in parentheses that a word follows. -/
theorem append_parens_then {front front' back back' word x : String} (hword : word = "(" ++ x ++ ")")
    (hfront : front ++ "(" = front') (hback : ")" ++ (" " ++ back) = back') :
    front ++ word ++ " " ++ back = front' ++ x ++ back' := by
  simp only [hword, ← hfront, ← hback, String.append_assoc]

/-- Settles O58: by the form of each instruction, its operand rendered by its word's rule. -/
theorem renderingOfOperands : Obligations.RenderingOfOperands := by
  unfold Obligations.RenderingOfOperands
  intro digit two four reg pair cond alu r p cc o n w d8 r8 d16
  have hd8 : renderWord "d8" (zext16 n) = d8 := renderWord_d8 n
  have hr8 : renderWord "r8" (zext16 n) = r8 := (renderWord_r8 n).trans (signedHex_eq n)
  have hsp : renderWord "SP+r8" (zext16 n) = "SP+" ++ r8 := (renderWord_spR8 n).trans (congrArg ("SP+" ++ ·) (signedHex_eq n))
  have ha8 : renderWord "(a8)" (zext16 n) = "(" ++ d8 ++ ")" := renderWord_a8 n
  have hd16 : renderWord "d16" w = d16 := (renderWord_d16 w).trans (hex4_digits w.toNat)
  have ha16 : renderWord "(a16)" w = "(" ++ d16 ++ ")" :=
    (renderWord_atA16 w).trans (congrArg (fun x => "(" ++ x ++ ")") (hex4_digits w.toNat))
  refine ⟨?_, ?_, ?_, ?_, ?_, ?_, ?_, ?_, ?_, ?_, ?_, ?_, ?_, ?_, ?_, ?_, ?_⟩
  · cases r <;> exact append_eq_of_last rfl hd8
  · exact append_eq_of_last rfl hd8
  · cases o <;> exact append_eq_of_last rfl hd8
  · exact append_parens_then ha8 rfl rfl
  · exact append_parens ha8 rfl
  · exact append_eq_of_last rfl hr8
  · cases cc <;> exact append_eq_of_last rfl hr8
  · exact append_eq_of_last rfl hr8
  · exact append_prefixed hsp rfl
  · cases p <;> exact append_eq_of_last rfl hd16
  · exact append_parens_then ha16 rfl rfl
  · exact append_parens_then ha16 rfl rfl
  · exact append_parens ha16 rfl
  · exact append_eq_of_last rfl hd16
  · cases cc <;> exact append_eq_of_last rfl hd16
  · exact append_eq_of_last rfl hd16
  · cases cc <;> exact append_eq_of_last rfl hd16

end Sys2Proof
end
